-- ==== Sys2Proof/Word.lean ====
section
/-! DEFINITION. The plain word types of the ZT418 and the four-place table every block keeps per station port. -/

namespace Sys2Proof

/-- Eight bits: a data character's byte, a tag, a frame kind. -/
abbrev Byte := BitVec 8

/-- Sixteen bits: an azimuth or elevation in angle units, a 16-bit counter. -/
abbrev Half := BitVec 16

/-- Thirty-two bits: a register of the window, a time base value, an engine address. -/
abbrev Word := BitVec 32

/-- A station port, 0 to 3; a station and its port share the number (05_stations.md). -/
abbrev Port := Fin 4

/-- The four ports in port order. -/
def allPorts : List Port := [0, 1, 2, 3]

/-- One value for each of the four ports. -/
structure PerPort (α : Type) where
  p0 : α
  p1 : α
  p2 : α
  p3 : α
  deriving DecidableEq, Repr

/-- The same value at every port. -/
def PerPort.same {α : Type} (a : α) : PerPort α := ⟨a, a, a, a⟩

/-- The value at one port. -/
def PerPort.get {α : Type} (v : PerPort α) (p : Port) : α :=
  match p with
  | 0 => v.p0
  | 1 => v.p1
  | 2 => v.p2
  | 3 => v.p3

/-- The table with one port's value replaced. -/
def PerPort.set {α : Type} (v : PerPort α) (p : Port) (a : α) : PerPort α :=
  match p with
  | 0 => ⟨a, v.p1, v.p2, v.p3⟩
  | 1 => ⟨v.p0, a, v.p2, v.p3⟩
  | 2 => ⟨v.p0, v.p1, a, v.p3⟩
  | 3 => ⟨v.p0, v.p1, v.p2, a⟩

/-- The table with a function applied at every port. -/
def PerPort.map {α β : Type} (v : PerPort α) (f : α → β) : PerPort β :=
  ⟨f v.p0, f v.p1, f v.p2, f v.p3⟩

end Sys2Proof
end

