-- ==== Sys2Proof/Syntax.lean ====
section
/-! DEFINITION. The commands and events of the ZT418: one constructor of Instr for each row of spec/opcode_table.json,
with the operands the event brings from outside the part. What the part already holds (the parameter words of a command,
the frame in flight, the waiting request) is no operand: it is read from State. -/

namespace Sys2Proof

/-- A character received on a station line, as the receiving half classifies it (R144): a good data character, a good
control character (one of the six codes, or an unassigned one), or a character with a parity error. -/
inductive LineChar where
  | data (b : Byte)
  | control (v : Byte)
  | parityError
  deriving DecidableEq, Repr

/-- The fields of an OBS or LOCK payload (R154's table in 07_station_links.md; layout R192). -/
structure ObsReport where
  x : Word
  y : Word
  z : Word
  az : Half
  el : Half
  latency : Half
  level : Byte
  flags : Byte
  deriving DecidableEq, Repr

/-- The fields of a BREAK payload; `reason` is its code, 1 to 3 in a good frame (R151). -/
structure BreakReport where
  az : Half
  el : Half
  latency : Half
  reason : Byte
  reserved : Byte
  deriving DecidableEq, Repr

/-- The fields of a BEARING payload; `reach` is its byte, 0 or 1 in a good frame (R151). -/
structure BearingReport where
  tag : Byte
  reach : Byte
  az : Half
  el : Half
  deriving DecidableEq, Repr

/-- The fields of an IDENT payload, and a station's identity (R110). -/
structure Identity where
  maker : Half
  model : Half
  serial : Word
  firmware : Half
  capability : Half
  deriving DecidableEq, Repr

/-- Where a learning request comes from (R82): a link port, or the track unit. Requests of one source reach the sight map
unit in the order they were sent; requests of different sources in either order (04_sight_maps.md, Events that come together). -/
inductive LearnSource where
  | link (p : Port)
  | track
  deriving DecidableEq, Repr

/-- The commands and events of the part, one constructor per row of spec/opcode_table.json. -/
inductive Instr where
  -- resets
  | hardwareReset
  | softReset (keepSurvey : Bool)
  -- the eighteen codes of the command register; their parameters stand in the parameter words (R188, R194)
  | arm
  | cancel
  | handoffTo
  | loadTransform
  | unloadTransform
  | setQuiet
  | setLearning
  | setOutstanding
  | mapFill
  | mapCopy
  | mapLine
  | mapRun
  | mapClear
  | mapAbort
  | mapPeek
  | passSend
  | roeStart
  | roeFlush
  | roeResume
  -- the engine control word: an action bit, or none, with the two settings every write of the word stores (R169)
  | enable (bigEndian flushOnLost : Bool)
  | disable (bigEndian flushOnLost : Bool)
  | engineReset (bigEndian flushOnLost : Bool)
  | engineControlSettings (bigEndian flushOnLost : Bool)
  -- other register accesses with an effect of their own
  | pairModeWrite (value : Word)
  | trackSnapshot
  | rollRead
  | rollWrite (value : Word)
  | noticeFlagClear (value : Word)
  | noticeMaskWrite (value : Word)
  | noticeControlWrite (value : Word)
  | portFlagClear (p : Port) (value : Word)
  | busWidthClear
  | mailboxRelease (p : Port) (value : Word)
  | subWordWrite (offset : BitVec 12) (value : Word)
  | registerWrite (offset : BitVec 12) (value : Word)
  -- deadlines
  | queryDeadlineExpiry
  | outputDeadlineExpiry
  | handoffDeadlineExpiry
  | coastDeadlineExpiry
  | searchDeadlineExpiry
  | holdOffExpiry (p : Port)
  | silenceDeadlineExpiry (p : Port)
  | answerDeadlineExpiry (p : Port)
  -- characters and frames received on a station line
  | idleCharacter (p : Port)
  | sof (p : Port)
  | brk (p : Port)
  | ack (p : Port)
  | nak (p : Port)
  | frameCheckFail (p : Port) (chars : List LineChar)
  | formatFail (p : Port) (kind seq : Byte) (payload : List Byte)
  | obs (p : Port) (seq : Byte) (report : ObsReport)
  | lock (p : Port) (seq : Byte) (report : ObsReport)
  | breakFrame (p : Port) (seq : Byte) (report : BreakReport)
  | failFrame (p : Port) (seq : Byte) (orderKind reason : Byte)
  | bearing (p : Port) (seq : Byte) (report : BearingReport)
  | ident (p : Port) (seq : Byte) (identity : Identity)
  | pass (p : Port) (seq : Byte) (payload : List Byte)
  -- the sending half
  | outboundFrameTake (p : Port)
  | eofSent (p : Port)
  -- the transform unit
  | xfuGrant
  | xfuCompletion
  -- the sight map unit
  | learningRequest (source : LearnSource)
  | pointLookup (p : Port)
  | lookupResult (p : Port)
  | pathScan
  | pathScanResult
  | mapCellStep
  | clearingSweepStep
  -- the record output engine: what the bus answers is the operand
  | recordWriteBegin
  | recordWriteEnd (ok : Bool)
  | writebackEnd (ok : Bool)
  | descriptorReadEnd (answer : Option (BitVec 128))
  | rereadEnd (answer : Option Word)
  -- the rest of the receiving half
  | dataCharacter (p : Port) (c : LineChar)
  | eof (p : Port)
  -- the command register
  | unknownCommandCode (code : Byte)
  deriving DecidableEq, Repr

end Sys2Proof
end

