-- ==== Sys2Proof/Decode.lean ====
section
/-! DEFINITION. The command that a word spells by the bits of spec/opcode_table.json. No row of that table gives bits (98_reader.md:
n_rows_with_fixed 0), so no word spells a command. The layouts the data book does give (frames, records, descriptors, registers)
stand in Machine/Frames.lean, Machine/EngineOps.lean and Machine/RegisterMap.lean. -/

namespace Sys2Proof

/-- The command a table word spells: none, since no row of the table gives bits. -/
def decodeTableWord (_nbits _w : Nat) : Option Instr := none

end Sys2Proof
end

