-- ==== Sys2Proof/Config.lean ====
section
/-! DEFINITION. What the ZT418 fixes (capacities and fixed times of the data book), and the free values: what the
data book leaves unstated, as constants with no body. -/

namespace Sys2Proof.Config

/-- LATENCY_MAX, the largest latency taken as reported, fixed at 50,000 µs (R5, R18). -/
def latencyMax : Nat := 50000

/-- The largest magnitude of a track velocity component, µm/s (R14). -/
def velocityLimit : Int := 4000000

/-- The silence measure of a port, µs (R146). -/
def silenceTime : Nat := 2000

/-- The wait for a station's answer to an outbound frame, µs (R157). -/
def answerTime : Nat := 1000

/-- The training characters that bring a link up (R147). -/
def trainingLength : Nat := 8

/-- The capacity of the record FIFO (R166). -/
def fifoCapacity : Nat := 16

/-- The host's share of a port's control queue (R160, R161). -/
def hostShare : Nat := 2

/-- Columns of a sight map (R78). -/
def mapColumns : Nat := 512

/-- Rows of a sight map (R78). -/
def mapRows : Nat := 128

/-- Cells of one sight map (R78). -/
def mapCells : Nat := 65536

/-- Cells of the four sight maps together (R78, R101). -/
def allCells : Nat := 262144

/-- The longest path a scan examines, in steps (R90). -/
def scanLimit : Nat := 64

/-- FREE VALUE. The 5-bit position field of a port's error capture as the host reads it (R194, +0x0C bits 12:8) when the
captured position is above 31. R149 and R150 let a position grow past 31 (unassigned control characters take positions
without limit), and no rule states what the field then shows. See notes/assumptions/12.md. -/
opaque wideCapturePosition : Nat → BitVec 5

/-- FREE VALUE. Whether an engine error names the writeback address, and not the buffer address, of a descriptor whose two addresses,
given in the order buffer, writeback, both fail check 4 or both fail check 5 of R175. R180 names "the failing buffer or writeback
address", and no rule states which where both fail. See notes/assumptions/17.md. -/
opaque namesWriteback : Word → Word → Bool

end Sys2Proof.Config
end

