-- ==== Sys2Proof/Machine/State.lean ====
section
/-! DEFINITION. The state of the ZT418 as plain data, block by block, the reasons a step could stop, and the machine right after
a hardware reset. -/

namespace Sys2Proof.Machine

/-- A point or a velocity: three exact integers, x, y, z (µm, µm/s or mm/s as its user says). -/
structure Vec3 where
  x : Int
  y : Int
  z : Int
  deriving DecidableEq, Repr

/-! ## TRK, the track unit (01_the_track.md, section 1.1) -/

/-- Track states (R1); their record codes are in R23. -/
inductive TrackState where
  | idle | acquire | tracking | handoff | coast | search | lost
  deriving DecidableEq, Repr

/-- Angles and observation time of the owner's last applied observation. `el` is read as a signed number. -/
structure OwnerAngles where
  az : Half
  el : Half
  time : Word
  deriving DecidableEq, Repr

/-- Result of a path scan (R91): the obstacle step, the suspect count and the long-path flag. -/
structure PathResult where
  obstacle : Option Nat
  suspect : Nat
  longPath : Bool
  deriving DecidableEq, Repr

/-- No obstacle, suspect count 0, the long-path flag clear (R1, R27). -/
def PathResult.empty : PathResult := ⟨none, 0, false⟩

/-- Reasons of a failed take (R47). -/
inductive FailReason where
  | timeout | failed | wrongTarget | undelivered | link
  deriving DecidableEq, Repr

/-- The handoff failure record (R47); `none` is reason NONE. -/
structure FailureRecord where
  reason : Option FailReason
  port : Option Port
  time : Word
  deriving DecidableEq, Repr

/-- The five deadlines of the track record, each present or absent. -/
structure Deadlines where
  handoff : Option Word
  coast : Option Word
  search : Option Word
  query : Option Word
  output : Option Word
  deriving DecidableEq, Repr

/-- All five deadlines absent. -/
def Deadlines.absent : Deadlines := ⟨none, none, none, none, none⟩

/-- The nine track counters (R17). -/
structure TrackCounters where
  accepted : Half
  stale : Half
  outliers : Half
  reseeds : Half
  handoffsDone : Half
  handoffsFailed : Half
  lateLocks : Half
  unsolicitedLocks : Half
  foreignObs : Half
  deriving DecidableEq, Repr

/-- The words that a read of the track group's first word keeps (R2). -/
structure Snapshot where
  position : Vec3
  velocity : Vec3
  lastUpdate : Word
  pathResult : PathResult
  deriving DecidableEq, Repr

/-- The two kinds of order that can be current (R28). -/
inductive OrderKind where
  | take | search
  deriving DecidableEq, Repr

/-- The track record (section 1.1), with search_pending (R69), the handoff failure record (R47), the current order
per port (R28) and the host's snapshot (R2). -/
structure Track where
  state : TrackState
  owner : Option Port
  blind : Bool
  candidate : Option Port
  position : Vec3
  velocity : Vec3
  lastUpdate : Word
  ownerAngles : Option OwnerAngles
  pathResult : PathResult
  outlierRun : Nat
  acquireMask : PerPort Bool
  lastTakePort : Port
  coastExpired : Bool
  noCandidate : Bool
  latePort : Option Port
  searchPoint : Option Vec3
  searchPending : PerPort Bool
  deadlines : Deadlines
  recordSeq : Half
  counters : TrackCounters
  failure : FailureRecord
  currentOrder : PerPort (Option OrderKind)
  snapshot : Snapshot
  deriving DecidableEq, Repr

/-- The reset values of R1, R2, R47 and R69. -/
def Track.reset : Track where
  state := .idle
  owner := none
  blind := false
  candidate := none
  position := ⟨0, 0, 0⟩
  velocity := ⟨0, 0, 0⟩
  lastUpdate := 0
  ownerAngles := none
  pathResult := .empty
  outlierRun := 0
  acquireMask := .same false
  lastTakePort := 3
  coastExpired := false
  noCandidate := false
  latePort := none
  searchPoint := none
  searchPending := .same false
  deadlines := .absent
  recordSeq := 0
  counters := ⟨0, 0, 0, 0, 0, 0, 0, 0, 0⟩
  failure := ⟨none, none, 0⟩
  currentOrder := .same none
  snapshot := ⟨⟨0, 0, 0⟩, ⟨0, 0, 0⟩, 0, .empty⟩

/-! ## Parameters (sections 1.5, 2.7, 3.5; register map of R194) -/

/-- TIE_MODE (R39, R58). -/
inductive TieMode where
  | fixed | rotating
  deriving DecidableEq, Repr

/-- The parameter registers 0x200 to 0x244. LATENCY_MAX is fixed (Config.latencyMax), and PAIR mode stands in Xfu. -/
structure Params where
  alpha : Nat
  beta : Nat
  gate : Nat
  outlierLimit : Nat
  gap : Nat
  lookahead : Nat
  suspectLimit : Nat
  outputInterval : Nat
  queryInterval : Nat
  bearingMaxAge : Nat
  handoffTimeout : Nat
  handoffGate : Nat
  holdOff : Nat
  tieMode : TieMode
  coastTime : Nat
  searchTime : Nat
  searchRadius : Nat
  deriving DecidableEq, Repr

/-- The defaults (R18, R58, R77, R187). -/
def Params.reset : Params where
  alpha := 32768
  beta := 8192
  gate := 50000
  outlierLimit := 3
  gap := 100000
  lookahead := 50000
  suspectLimit := 2
  outputInterval := 10000
  queryInterval := 20000
  bearingMaxAge := 60000
  handoffTimeout := 150000
  handoffGate := 25000
  holdOff := 500000
  tieMode := .fixed
  coastTime := 300000
  searchTime := 5000000
  searchRadius := 300000

/-! ## SMU cell states, needed by the bearing record -/

/-- The six cell states (R79). -/
inductive CellState where
  | unknown | clear | suspect | blocked | fixedClear | fixedBlocked
  deriving DecidableEq, Repr

/-! ## STB, the station table (05_stations.md) -/

/-- Station states (R106 gives their codes). -/
inductive StationState where
  | absent | unconfigured | standby | owner | taking | searching
  deriving DecidableEq, Repr

/-- A station's inbound mailbox: its content (0 to 24 bytes; its length is the content's) and the full flag (R122). -/
structure Mailbox where
  content : List Byte
  full : Bool
  deriving DecidableEq, Repr

/-- The query part of a bearing record (section 5.7). -/
structure BearingQuery where
  tag : Byte
  point : Vec3
  time : Word
  deriving DecidableEq, Repr

/-- The answer part of a bearing record (section 5.7). -/
structure BearingAnswer where
  tag : Byte
  reach : Bool
  az : Half
  el : Half
  cell : CellState
  time : Word
  deriving DecidableEq, Repr

/-- The five counters of a station record (section 5.1). -/
structure StationCounters where
  obsTaken : Half
  noTransformDrops : Half
  superseded : Half
  bearings : Half
  tagMismatch : Half
  deriving DecidableEq, Repr

/-- A station record with its bearing record. has_transform is the loaded flag of the station's transform record in Xfu
(section 6.1: one fact under two names). -/
structure Station where
  state : StationState
  transformGen : Byte
  quiet : Bool
  quietPending : Option Bool
  learning : Bool
  identity : Option Identity
  holdOff : Option Word
  tagCounter : Byte
  mailbox : Mailbox
  counters : StationCounters
  query : Option BearingQuery
  answer : Option BearingAnswer
  deriving DecidableEq, Repr

/-- The reset values of R105. -/
def Station.reset : Station where
  state := .absent
  transformGen := 0
  quiet := false
  quietPending := none
  learning := true
  identity := none
  holdOff := none
  tagCounter := 0
  mailbox := ⟨[], false⟩
  counters := ⟨0, 0, 0, 0, 0⟩
  query := none
  answer := none

/-- The roll call (R111): the cursor, 0 to 4, and the roll entry, `none` for the NONE entry. -/
structure RollCall where
  cursor : Nat
  entry : Option (Port × Identity)
  deriving DecidableEq, Repr

/-! ## XFU, the transform unit (06_the_transform_unit.md) -/

/-- The twelve values of a transform record, and the twelve staging words, in staging order (section 6.1, R112). -/
structure TransformValues where
  m11 : Word
  m12 : Word
  m13 : Word
  m21 : Word
  m22 : Word
  m23 : Word
  m31 : Word
  m32 : Word
  m33 : Word
  tx : Word
  ty : Word
  tz : Word
  deriving DecidableEq, Repr

/-- All twelve values 0. -/
def TransformValues.zero : TransformValues := ⟨0, 0, 0, 0, 0, 0, 0, 0, 0, 0, 0, 0⟩

/-- A transform record (R124). -/
structure TransformRecord where
  loaded : Bool
  values : TransformValues
  deriving DecidableEq, Repr

/-- The two kinds of observation. -/
inductive ReportKind where
  | obs | lock
  deriving DecidableEq, Repr

/-- An entry of an ingest queue (section 6.4). -/
structure IngestEntry where
  kind : ReportKind
  point : Vec3
  az : Half
  el : Half
  time : Word
  latClamped : Bool
  seq : Byte
  deriving DecidableEq, Repr

/-- The two kinds of inverse request (section 6.5). -/
inductive InverseKind where
  | query | search
  deriving DecidableEq, Repr

/-- An entry of the query queue (section 6.5). -/
structure InverseRequest where
  station : Port
  kind : InverseKind
  point : Vec3
  deriving DecidableEq, Repr

/-- The five requesters of the arbiter (section 6.6). -/
inductive Requester where
  | port (p : Port)
  | queryQueue
  deriving DecidableEq, Repr

/-- What an operation carries: an ingest entry of a port, or an inverse request with, for a query, the transform_gen
copied at the grant (R138). -/
inductive Job where
  | forward (p : Port) (entry : IngestEntry)
  | inverse (request : InverseRequest) (gen : Option Byte)
  deriving DecidableEq, Repr

/-- The operation in flight with the captured copy of the record's values (R125, R138). -/
structure Operation where
  job : Job
  values : TransformValues
  deriving DecidableEq, Repr

/-- The transform unit. -/
structure Xfu where
  records : PerPort TransformRecord
  ingest : PerPort (List IngestEntry)
  outstanding : PerPort Nat
  queryQueue : List InverseRequest
  pointer : Requester
  pairFlag : Bool
  pairMode : Bool
  operation : Option Operation
  forwardSat : Half
  inverseSat : Half
  grantDrops : Half
  deriving DecidableEq, Repr

/-- Every record unloaded with values 0 (R124). -/
def TransformRecord.reset : TransformRecord := ⟨false, .zero⟩

/-- The reset values of R124, R131, R132, R134, R135, R136, R141 and R143, with the transform records given. -/
def Xfu.resetWith (records : PerPort TransformRecord) : Xfu where
  records := records
  ingest := .same []
  outstanding := .same 2
  queryQueue := []
  pointer := .port 0
  pairFlag := false
  pairMode := false
  operation := none
  forwardSat := 0
  inverseSat := 0
  grantDrops := 0

/-! ## SLP, the station link ports (07_station_links.md) -/

/-- Port states (section 7.2). -/
inductive PortState where
  | down | accepting | refusing
  deriving DecidableEq, Repr

/-- An answer of the receiving half (R145). -/
inductive LinkAnswer where
  | ack | nak
  deriving DecidableEq, Repr

/-- Release reasons with the codes of R29. -/
inductive ReleaseReason where
  | handedOff | notChosen | wrongTarget | timeout | searchEnd | outOfRadius | unsolicited | cancelled
  deriving DecidableEq, Repr

/-- An outbound frame (R163): a SEARCH has no target, or a point and a radius. -/
inductive OutFrame where
  | idreq
  | point (tag : Byte) (target : Vec3)
  | take (target : Vec3)
  | search (target : Option (Vec3 × Nat))
  | release (reason : ReleaseReason)
  | pass (bytes : List Byte)
  deriving DecidableEq, Repr

/-- The frame in flight, its seq, and whether it is its station's current order (R28). -/
structure InFlight where
  frame : OutFrame
  seq : Byte
  current : Bool
  deriving DecidableEq, Repr

/-- The sending half's state (section 7.5). While SENDING, `sent` counts the characters of the frame that have been put on the line
(R145, R157). -/
inductive Sending where
  | idle
  | sending (f : InFlight) (sent : Nat)
  | awaiting (f : InFlight)
  deriving DecidableEq, Repr

/-- The six sticky flags of a port (R154). -/
structure StickyFlags where
  parity : Bool
  check : Bool
  format : Bool
  passOverrun : Bool
  releaseLost : Bool
  passLost : Bool
  deriving DecidableEq, Repr

/-- Causes of an error capture (R150, R194). -/
inductive CaptureCause where
  | nothing | parity | check | format
  deriving DecidableEq, Repr

/-- The error capture (R150). -/
structure ErrorCapture where
  cause : CaptureCause
  position : Nat
  kind : Option Byte
  time : Word
  deriving DecidableEq, Repr

/-- The three last-report views (R155), `none` while the none mark stands: level and flags; reason and latency; order kind
and reason. -/
structure LastReports where
  observation : Option (Byte × Byte)
  beamBreak : Option (Byte × Half)
  fail : Option (Byte × Byte)
  deriving DecidableEq, Repr

/-- The five counters of a port (R164). -/
structure PortCounters where
  framesIn : Half
  naksSent : Half
  framesSent : Half
  undelivered : Half
  strayAnswers : Half
  deriving DecidableEq, Repr

/-- A station link port. `inFrame` holds the frame characters after the SOF while the receiving half is in a frame (R148);
`inRefused` says that a refused frame is being discarded (R153); `answers` are the answers not yet gone out (R145);
`slot` is the POINT of the query slot (R162); `line` is the character that the sending half has on the station line (R145). -/
structure LinkPort where
  state : PortState
  training : Nat
  silence : Option Word
  inFrame : Option (List LineChar)
  inRefused : Bool
  answers : List LinkAnswer
  idreqPending : Bool
  control : List OutFrame
  slot : Option (Byte × Vec3)
  sending : Sending
  answerDeadline : Option Word
  line : LineChar
  seqCounter : Byte
  flags : StickyFlags
  capture : ErrorCapture
  views : LastReports
  counters : PortCounters
  deriving DecidableEq, Repr

/-- The reset values of R147, R150, R154, R155, R156, R160, R162, R164 and R165; a DOWN port sends IDLE, 0xA5 (R145, R192). -/
def LinkPort.reset : LinkPort where
  state := .down
  training := 0
  silence := none
  inFrame := none
  inRefused := false
  answers := []
  idreqPending := false
  control := []
  slot := none
  sending := .idle
  answerDeadline := none
  line := .control 0xA5
  seqCounter := 0
  flags := ⟨false, false, false, false, false, false⟩
  capture := ⟨.nothing, 0, none, 0⟩
  views := ⟨none, none, none⟩
  counters := ⟨0, 0, 0, 0, 0⟩

/-! ## SMU, the sight map unit (04_sight_maps.md) -/

/-- Events of a learning request (R82). -/
inductive LearnEvent where
  | seen | lost | failedTake
  deriving DecidableEq, Repr

/-- A learning request (R82): where it comes from, its station, bearing and event. -/
structure LearnRequest where
  source : LearnSource
  station : Port
  az : Half
  el : Half
  event : LearnEvent
  deriving DecidableEq, Repr

/-- A point lookup asked for and not yet stored (R118, R120): the BEARING fields held with it, the cell state once the
sight map unit has taken it, and the mark of R108, R112 and R113. -/
structure Lookup where
  station : Port
  tag : Byte
  reach : Bool
  az : Half
  el : Half
  time : Word
  result : Option CellState
  forgotten : Bool
  deriving DecidableEq, Repr

/-- A path scan asked for and not yet handed back (R19, R89): the port, the start and end angles, and the result once the
sight map unit has taken it. -/
structure Scan where
  port : Port
  startAz : Half
  startEl : Half
  endAz : Half
  endEl : Half
  result : Option PathResult
  deriving DecidableEq, Repr

/-- The running map commands with their parameters (section 4.5). `down` of MAP_COPY's orders is order −; `left` of MAP_RUN is
direction −; MAP_CLEAR of `none` is all four maps. -/
inductive MapCommand where
  | fill (station : Port) (column row width height : Nat) (state : CellState)
  | copy (source : Port) (sourceColumn sourceRow : Nat) (target : Port) (targetColumn targetRow : Nat)
      (width height : Nat) (columnsDown rowsDown : Bool)
  | line (station : Port) (column row count : Nat) (columnStep rowStep : Int) (state : CellState)
  | run (station : Port) (column row : Nat) (left : Bool) (state : CellState) (limit : Nat)
  | clear (station : Option Port)
  deriving DecidableEq, Repr

/-- A running map command and the number of cells it has visited (R94). -/
structure RunningCommand where
  command : MapCommand
  visited : Nat
  deriving DecidableEq, Repr

/-- Kinds of map command in the map status (R104, R194). -/
inductive MapKind where
  | nothing | fill | copy | line | run | clear
  deriving DecidableEq, Repr

/-- Results in the map status (R104). -/
inductive MapResult where
  | nothing | running | done | aborted
  deriving DecidableEq, Repr

/-- Stop reasons of MAP_RUN (R100). -/
inductive RunStop where
  | nothing | different | limit
  deriving DecidableEq, Repr

/-- The map status fields that a command writes (R104). -/
structure MapStatus where
  kind : MapKind
  result : MapResult
  cellsWritten : Nat
  runCount : Nat
  runStop : RunStop
  runStopColumn : Nat
  deriving DecidableEq, Repr

/-- The peek selector (R103, layout R194). -/
structure PeekSelector where
  station : Port
  column : BitVec 9
  row : BitVec 7
  deriving DecidableEq, Repr

/-- The sight map unit. `cells` lists the cells that do not hold UNKNOWN, by address 65536 · station + cell index, addresses
rising; `sweep` is the next address of a running clearing sweep; `learnQueue`, `lookups` and `scans` hold the requests on
their way, oldest first. -/
structure Smu where
  cells : List (Nat × CellState)
  sweep : Option Nat
  running : Option RunningCommand
  status : MapStatus
  latches : PerPort (Option LearnRequest)
  learnReplaced : PerPort Half
  peek : PeekSelector
  learnQueue : List LearnRequest
  lookups : List Lookup
  scans : List Scan
  deriving DecidableEq, Repr

/-- The reset values of R81, R85, R103 and R104, with the cells and the sweep given. -/
def Smu.resetWith (cells : List (Nat × CellState)) (sweep : Option Nat) : Smu where
  cells := cells
  sweep := sweep
  running := none
  status := ⟨.nothing, .nothing, 0, 0, .nothing, 0⟩
  latches := .same none
  learnReplaced := .same 0
  peek := ⟨0, 0, 0⟩
  learnQueue := []
  lookups := []
  scans := []

/-! ## ROE, the record output engine (08_the_record_output_engine.md) -/

/-- Engine states (section 8.2; codes R182). -/
inductive EngineState where
  | disabled | idle | fetching | running | starved | halted
  deriving DecidableEq, Repr

/-- Kinds of track record (section 1.8; codes R193). -/
inductive RecordKind where
  | update | reseed | predicted | event
  deriving DecidableEq, Repr

/-- The flags of a record (R24). -/
structure RecordFlags where
  sat : Bool
  velClamped : Bool
  latClamped : Bool
  blind : Bool
  longPath : Bool
  noCandidate : Bool
  deriving DecidableEq, Repr

/-- A track record (R23, layout R193). `source` and `last` are the bytes at offsets 3 and 31; velocity is in mm/s. -/
structure Record where
  seq : Half
  kind : RecordKind
  source : Byte
  time : Word
  position : Vec3
  velocity : Vec3
  residual : Nat
  flags : RecordFlags
  state : TrackState
  last : Byte
  deriving DecidableEq, Repr

/-- Error codes of the engine (R177); NONE is the absence of an error. -/
inductive EngineError where
  | align | address | capacity | pageCross | bus
  deriving DecidableEq, Repr

/-- An address window (R172). -/
structure Window where
  enabled : Bool
  base : Word
  exponent : Nat
  target : Word
  deriving DecidableEq, Repr

/-- A window as reset leaves it (R168). -/
def Window.reset : Window := ⟨false, 0, 12, 0⟩

/-- The current descriptor: the copy and its two running values (section 8.4). -/
structure Descriptor where
  address : Word
  buffer : Word
  capacity : Half
  next : Word
  writeback : Word
  written : Nat
  lastSeq : Half
  deriving DecidableEq, Repr

/-- Status codes of a completion (R177). -/
inductive CompletionStatus where
  | complete | partialFill | haltedByStart | error
  deriving DecidableEq, Repr

/-- What the end of a completion writeback leads to (R177, R170, R174, R180): the chain is followed; nothing more (DISABLE's final
writeback); the fetch of a START; nothing more (an ERROR writeback). -/
inductive WritebackPurpose where
  | followChain | final | beforeFetch | errorReport
  deriving DecidableEq, Repr

/-- The memory access in flight (R171): its engine address, the bus address it was translated to, and the byte order a read
takes or the bytes a write carries, lowest address first. A writeback also names the descriptor it completes. -/
inductive Access where
  | descriptorRead (address bus : Word) (bigEndian : Bool)
  | reread (address bus : Word) (bigEndian : Bool)
  | recordWrite (address bus : Word) (bytes : List Byte)
  | writeback (purpose : WritebackPurpose) (descriptor address bus : Word) (bytes : List Byte)
  deriving DecidableEq, Repr

/-- An action held while a write is in flight (R171). -/
inductive HeldAction where
  | start (address : Word)
  | enable
  | disable
  | engineReset
  deriving DecidableEq, Repr

/-- The record output engine. `bufferOpen` says that the current descriptor's buffer is open (R175, R177); `flush` is the
count of a pending flush (R178). -/
structure Engine where
  state : EngineState
  bufferOpen : Bool
  fifo : List Record
  produced : Word
  written : Word
  dropped : Word
  window0 : Window
  window1 : Window
  bigEndian : Bool
  flushOnLost : Bool
  current : Option Descriptor
  lastDescriptor : Word
  error : Option EngineError
  errorAddress : Word
  access : Option Access
  held : Option HeldAction
  flush : Option Nat
  deriving DecidableEq, Repr

/-- The reset values of R167 and R168. -/
def Engine.reset : Engine where
  state := .disabled
  bufferOpen := false
  fifo := []
  produced := 0
  written := 0
  dropped := 0
  window0 := .reset
  window1 := .reset
  bigEndian := false
  flushOnLost := false
  current := none
  lastDescriptor := 0
  error := none
  errorAddress := 0
  access := none
  held := none
  flush := none

/-! ## NTU, the notice unit, and SBI, the system bus interface (09_notices_and_the_system_bus_interface.md) -/

/-- The notice flags, the mask and the global enable (R183); bit n belongs to source n. -/
structure Notices where
  flags : BitVec 14
  mask : BitVec 14
  enabled : Bool
  deriving DecidableEq, Repr

/-- Outcomes of a command (R188). -/
inductive CommandOutcome where
  | nothing | done | refused | pending
  deriving DecidableEq, Repr

/-- Refusal reasons of a command (R188). -/
inductive RefusalReason where
  | nothing | busy | state | range | value | full
  deriving DecidableEq, Repr

/-- The command status word (R188). -/
structure CommandStatus where
  code : Byte
  outcome : CommandOutcome
  reason : RefusalReason
  deriving DecidableEq, Repr

/-- Which reset the part last took (R191). -/
inductive LastReset where
  | hardware | soft | softKeep
  deriving DecidableEq, Repr

/-- The eight parameter words P0 to P7 (R188). -/
structure ParameterWords where
  p0 : Word
  p1 : Word
  p2 : Word
  p3 : Word
  p4 : Word
  p5 : Word
  p6 : Word
  p7 : Word
  deriving DecidableEq, Repr

/-- The system bus interface. COMMAND_PENDING is computed from the engine's held action (R188). `readData` is the model's own:
the word that the last read with an effect of its own returned (TRACK_SNAPSHOT, ROLL_READ, MAP_PEEK). -/
structure Sbi where
  status : CommandStatus
  parameters : ParameterWords
  staging : TransformValues
  busWidth : Bool
  lastReset : LastReset
  readData : Word
  deriving DecidableEq, Repr

/-- The reset values of R188, R190 and R191. -/
def Sbi.resetWith (reset : LastReset) : Sbi where
  status := ⟨0, .nothing, .nothing⟩
  parameters := ⟨0, 0, 0, 0, 0, 0, 0, 0⟩
  staging := .zero
  busWidth := false
  lastReset := reset
  readData := 0

/-- Every flag clear, every source masked, the global enable off (R183). -/
def Notices.reset : Notices := ⟨0, 0x3FFF, false⟩

/-! ## The part -/

/-- The nine blocks of the ZT418. -/
structure Device where
  tb : Word
  track : Track
  params : Params
  stations : PerPort Station
  roll : RollCall
  xfu : Xfu
  ports : PerPort LinkPort
  smu : Smu
  engine : Engine
  notices : Notices
  sbi : Sbi
  deriving DecidableEq, Repr

/-- The part as a hardware reset leaves it, with the sight map cells given: a hardware reset starts the clearing sweep and
leaves the cells to it (R80). -/
def Device.hardwareResetWith (cells : List (Nat × CellState)) : Device where
  tb := 0
  track := .reset
  params := .reset
  stations := .same .reset
  roll := ⟨0, none⟩
  xfu := .resetWith (.same .reset)
  ports := .same .reset
  smu := .resetWith cells (some 0)
  engine := .reset
  notices := .reset
  sbi := .resetWith .hardware

/-- The machine: the part and the commands that wait, oldest first. -/
structure State where
  device : Device
  pending : List Instr
  deriving DecidableEq, Repr

/-- The machine right after a hardware reset, no command waiting. What a cell holds before the clearing sweep has written it
cannot be observed (R80): the list of cells is empty here (notes/assumptions/3.md). -/
def State.reset : State := ⟨.hardwareResetWith [], []⟩

/-- Reasons the machine could stop with a fault. The ZT418 reports every error in its own state (a refusal in the command
status, a NAK and an error capture, an engine error, a notice) and goes on. -/
inductive Fault where
  /-- Raised by no command: every rule of the spec gives its event an effect. Safe, since no step answers it. -/
  | neverRaised
  deriving DecidableEq, Repr

/-- Reasons the model could refuse a command. -/
inductive Refusal where
  /-- Raised by exec for a command with no meaning yet, under its mnemonic in the table. Safe. No command is left so. -/
  | notModelled (mnemonic : String)
  deriving DecidableEq, Repr

end Sys2Proof.Machine
end

