-- ==== Sys2Proof/Machine/Flags.lean ====
section
/-! DEFINITION. Counters, notice flags and the notice line (R183 to R185), a port's sticky flags (R154) and the flags of a record (R24). -/

namespace Sys2Proof.Machine

/-- A 16-bit saturating counter counts one event: it keeps 65535 once there (Conventions, R17). -/
def countUp (c : Half) : Half := if c = 65535 then c else c + 1

/-- The fourteen notice sources (section 9.1). -/
inductive Notice where
  | portFault (p : Port)
  | trackLost | handoffFailed | handoffDone | trackState | recordError | bufferDone | chainEnd | mapDone | passIn
  | stationChange
  deriving DecidableEq, Repr

/-- The number, and priority, of a source (section 9.1). -/
def Notice.number : Notice → Nat
  | .portFault p => p.val
  | .trackLost => 4 | .handoffFailed => 5 | .handoffDone => 6 | .trackState => 7 | .recordError => 8 | .bufferDone => 9
  | .chainEnd => 10 | .mapDone => 11 | .passIn => 12 | .stationChange => 13

/-- The flag bit of a source. -/
def Notice.bit (n : Notice) : BitVec 14 := 1#14 <<< n.number

/-- Raising a source sets its flag, whatever the mask and the enable (R183). -/
def Notices.raise (n : Notices) (source : Notice) : Notices := { n with flags := n.flags ||| source.bit }

/-- The notice line (R184): active while the enable is on and an unmasked flag is set. -/
def Notices.line (n : Notices) : Bool := n.enabled && decide (n.flags &&& ~~~n.mask ≠ 0)

/-- The SOURCE word (R184): 1 plus the number of the lowest source set and unmasked, 0 if there is none. -/
def Notices.sourceWord (n : Notices) : Nat :=
  match (List.range 14).find? (fun i => (n.flags &&& ~~~n.mask).getLsbD i) with
  | some i => i + 1
  | none => 0

/-- The conditions that set a flag again after a clear (R183): a port REFUSING, the engine HALTED or STARVED. -/
def Device.conditions (d : Device) : BitVec 14 :=
  (if d.ports.p0.state = .refusing then (Notice.portFault 0).bit else 0) |||
  (if d.ports.p1.state = .refusing then (Notice.portFault 1).bit else 0) |||
  (if d.ports.p2.state = .refusing then (Notice.portFault 2).bit else 0) |||
  (if d.ports.p3.state = .refusing then (Notice.portFault 3).bit else 0) |||
  (if d.engine.state = .halted then Notice.recordError.bit else 0) |||
  (if d.engine.state = .starved then Notice.chainEnd.bit else 0)

/-- A host write of the flag word (R185): bits written 1 clear their flags, and a flag whose condition holds is set again. -/
def Notices.clear (n : Notices) (conditions written : BitVec 14) : Notices :=
  { n with flags := (n.flags &&& ~~~written) ||| (written &&& conditions) }

/-- The sticky flags of a port after a write of its flag word: bits written 1 clear (R154, bits R194). -/
def StickyFlags.clear (f : StickyFlags) (w : Word) : StickyFlags where
  parity := f.parity && !w.getLsbD 0
  check := f.check && !w.getLsbD 1
  format := f.format && !w.getLsbD 2
  passOverrun := f.passOverrun && !w.getLsbD 3
  releaseLost := f.releaseLost && !w.getLsbD 4
  passLost := f.passLost && !w.getLsbD 5

/-- The flags of a record produced now (R24): BLIND, LONG_PATH and NO_CANDIDATE as the track stands, the others as given. -/
def Track.recordFlags (t : Track) (sat velClamped latClamped : Bool) : RecordFlags where
  sat := sat
  velClamped := velClamped
  latClamped := latClamped
  blind := t.blind
  longPath := t.pathResult.longPath
  noCandidate := t.noCandidate

end Sys2Proof.Machine
end

