-- ==== Sys2Proof/Machine/Codes.lean ====
section
/-! DEFINITION. The codes the data book gives its enumerated values, in registers, records, frames and completions. -/

namespace Sys2Proof.Machine

/-- Track state codes (R23). -/
def TrackState.code : TrackState → Nat
  | .idle => 0 | .acquire => 1 | .tracking => 2 | .handoff => 3 | .coast => 4 | .search => 5 | .lost => 6

/-- Handoff failure reason codes, NONE 0 (R47). -/
def failReasonCode : Option FailReason → Nat
  | none => 0 | some .timeout => 1 | some .failed => 2 | some .wrongTarget => 3 | some .undelivered => 4 | some .link => 5

/-- Cell state codes (R79). -/
def CellState.code : CellState → Nat
  | .unknown => 0 | .clear => 1 | .suspect => 2 | .blocked => 3 | .fixedClear => 4 | .fixedBlocked => 5

/-- Station state codes (R106). -/
def StationState.code : StationState → Nat
  | .absent => 0 | .unconfigured => 1 | .standby => 2 | .owner => 3 | .taking => 4 | .searching => 5

/-- Release reason codes (R29). -/
def ReleaseReason.code : ReleaseReason → Nat
  | .handedOff => 1 | .notChosen => 2 | .wrongTarget => 3 | .timeout => 4 | .searchEnd => 5 | .outOfRadius => 6
  | .unsolicited => 7 | .cancelled => 8

/-- Port state codes (R165). -/
def PortState.code : PortState → Nat
  | .down => 0 | .accepting => 1 | .refusing => 2

/-- Sending state codes (R194). -/
def Sending.code : Sending → Nat
  | .idle => 0 | .sending _ _ => 1 | .awaiting _ => 2

/-- Capture cause codes (R194). -/
def CaptureCause.code : CaptureCause → Nat
  | .nothing => 0 | .parity => 1 | .check => 2 | .format => 3

/-- Map status kind codes (R194). -/
def MapKind.code : MapKind → Nat
  | .nothing => 0 | .fill => 1 | .copy => 2 | .line => 3 | .run => 4 | .clear => 5

/-- Map status result codes (R194). -/
def MapResult.code : MapResult → Nat
  | .nothing => 0 | .running => 1 | .done => 2 | .aborted => 3

/-- Run stop codes (R194). -/
def RunStop.code : RunStop → Nat
  | .nothing => 0 | .different => 1 | .limit => 2

/-- Engine state codes (R182). -/
def EngineState.code : EngineState → Nat
  | .disabled => 0 | .idle => 1 | .fetching => 2 | .running => 3 | .starved => 4 | .halted => 5

/-- Engine error codes, NONE 0 (R177). -/
def engineErrorCode : Option EngineError → Nat
  | none => 0 | some .align => 1 | some .address => 2 | some .capacity => 3 | some .pageCross => 4 | some .bus => 5

/-- Completion status codes (R177). -/
def CompletionStatus.code : CompletionStatus → Nat
  | .complete => 1 | .partialFill => 2 | .haltedByStart => 3 | .error => 4

/-- Engine access kind codes (R194). -/
def accessCode : Option Access → Nat
  | none => 0 | some (.descriptorRead ..) => 1 | some (.reread ..) => 2 | some (.recordWrite ..) => 3 | some (.writeback ..) => 4

/-- Engine held action codes (R194). -/
def heldCode : Option HeldAction → Nat
  | none => 0 | some (.start _) => 1 | some .enable => 2 | some .disable => 3 | some .engineReset => 4

/-- Requester and rotation pointer codes (R194). -/
def Requester.code : Requester → Nat
  | .port p => p.val | .queryQueue => 4

/-- The requester an operation in flight came from. -/
def Job.requester : Job → Requester
  | .forward p _ => .port p | .inverse _ _ => .queryQueue

/-- Transform unit kind codes (R194). -/
def Job.kindCode : Job → Nat
  | .forward _ e => (match e.kind with | .obs => 0 | .lock => 1)
  | .inverse r _ => (match r.kind with | .query => 2 | .search => 3)

/-- Record kind codes (R193). -/
def RecordKind.code : RecordKind → Nat
  | .update => 1 | .reseed => 2 | .predicted => 3 | .event => 4

/-- Command outcome codes (R188). -/
def CommandOutcome.code : CommandOutcome → Nat
  | .nothing => 0 | .done => 1 | .refused => 2 | .pending => 3

/-- Refusal reason codes (R188). -/
def RefusalReason.code : RefusalReason → Nat
  | .nothing => 0 | .busy => 1 | .state => 2 | .range => 3 | .value => 4 | .full => 5

/-- LAST_RESET codes (R191). -/
def LastReset.code : LastReset → Nat
  | .hardware => 0 | .soft => 1 | .softKeep => 2

/-- TIE_MODE codes (R58). -/
def TieMode.code : TieMode → Nat
  | .fixed => 0 | .rotating => 1

/-- Outbound frame kind codes (R192). -/
def OutFrame.kindCode : OutFrame → Byte
  | .idreq => 0x20 | .point .. => 0x21 | .take _ => 0x22 | .search _ => 0x23 | .release _ => 0x24 | .pass _ => 0x2F

/-- The byte a record shows for a port that may be absent: 0xFF when it is (R23, R193). -/
def portByte : Option Port → Byte
  | some p => BitVec.ofNat 8 p.val
  | none => 0xFF

end Sys2Proof.Machine
end

