-- ==== Sys2Proof/Machine/Operands.lean ====
section
/-! DEFINITION. The arithmetic every block shares (rounding, saturation, times, bytes, bit fields), the geometry of the sight maps,
and the values a command or a register write brings (clamping, parameter words, codes). -/

namespace Sys2Proof.Machine

/-! ## Rounding and saturation (R4, Conventions) -/

/-- The quotient n / d rounded to nearest, halves away from zero, for a positive divisor (R4). -/
def roundDiv (n d : Int) : Int :=
  if 0 ≤ n then (2 * n + d) / (2 * d) else -((2 * -n + d) / (2 * d))

/-- The nearest limit of lo..hi where n lies outside it. -/
def saturate (lo hi n : Int) : Int := max lo (min hi n)

/-- n saturated to the signed 32-bit range. -/
def saturate32 (n : Int) : Int := saturate (-2147483648) 2147483647 n

/-- Whether n lies outside the signed 32-bit range. -/
def overflows32 (n : Int) : Bool := decide (saturate32 n ≠ n)

/-- The three coordinates saturated to the signed 32-bit range. -/
def Vec3.saturate32 (v : Vec3) : Vec3 :=
  ⟨Machine.saturate32 v.x, Machine.saturate32 v.y, Machine.saturate32 v.z⟩

/-- Whether any coordinate lies outside the signed 32-bit range. -/
def Vec3.overflows32 (v : Vec3) : Bool :=
  Machine.overflows32 v.x || Machine.overflows32 v.y || Machine.overflows32 v.z

/-- Whether every coordinate's magnitude is at most the limit. -/
def Vec3.within (v : Vec3) (limit : Nat) : Bool :=
  decide (v.x.natAbs ≤ limit) && decide (v.y.natAbs ≤ limit) && decide (v.z.natAbs ≤ limit)

/-- The largest of the three magnitudes. -/
def Vec3.largest (v : Vec3) : Nat := max v.x.natAbs (max v.y.natAbs v.z.natAbs)

/-- The difference of two points, axis by axis. -/
def Vec3.minus (v w : Vec3) : Vec3 := ⟨v.x - w.x, v.y - w.y, v.z - w.z⟩

/-- The point whose coordinates are the words, read as signed numbers. -/
def Vec3.ofWords (x y z : Word) : Vec3 := ⟨x.toInt, y.toInt, z.toInt⟩

/-- n clamped into lo..hi (R187). -/
def clampNat (lo hi n : Nat) : Nat := max lo (min n hi)

/-! ## Times (Conventions, R3) -/

/-- The time difference of two time base values, in the signed range −2^31..2^31−1. -/
def timeDiff (a b : Word) : Int := (a - b).toInt

/-- One time is later than another when their time difference is positive. -/
def laterThan (a b : Word) : Bool := decide (0 < timeDiff a b)

/-- A deadline has expired when it is present and the time base is later than it. -/
def expired (now : Word) (deadline : Option Word) : Bool :=
  match deadline with
  | some t => laterThan now t
  | none => false

/-- The time n microseconds after t, modulo 2^32. -/
def timeAfter (t : Word) (n : Nat) : Word := t + BitVec.ofNat 32 n

/-! ## Bytes (R192, R193) -/

/-- Byte i of a list, 0 beyond its end. -/
def byteAt (l : List Byte) (i : Nat) : Byte := l.getD i 0

/-- The 16-bit number at byte i, least significant byte first. -/
def halfAt (l : List Byte) (i : Nat) : Half := byteAt l (i + 1) ++ byteAt l i

/-- The 32-bit number at byte i, least significant byte first. -/
def wordAt (l : List Byte) (i : Nat) : Word :=
  byteAt l (i + 3) ++ byteAt l (i + 2) ++ byteAt l (i + 1) ++ byteAt l i

/-- A 16-bit number's bytes, least significant first. -/
def halfBytes (h : Half) : List Byte := [h.extractLsb' 0 8, h.extractLsb' 8 8]

/-- A 32-bit number's bytes, least significant first. -/
def wordBytes (w : Word) : List Byte :=
  [w.extractLsb' 0 8, w.extractLsb' 8 8, w.extractLsb' 16 8, w.extractLsb' 24 8]

/-- A signed number as a 32-bit word in two's complement. -/
def intWord (n : Int) : Word := BitVec.ofInt 32 n

/-- A field's bytes in the engine's byte order (R173): as they are under little, reversed under big. -/
def ordered (bigEndian : Bool) (bytes : List Byte) : List Byte :=
  if bigEndian then bytes.reverse else bytes

/-! ## Bit fields (R194) -/

/-- A value in the bits from `low` up, `width` bits wide. -/
def fieldAt (low width : Nat) (v : Nat) : Word := BitVec.ofNat 32 (v % 2 ^ width * 2 ^ low)

/-- One bit of a register word. -/
def bitAt (low : Nat) (b : Bool) : Word := fieldAt low 1 b.toNat

/-- The fields of one register word together. -/
def packed (fields : List Word) : Word := fields.foldl (fun a b => a ||| b) 0

/-- Two 16-bit values in one word, the first in bits 15:0 (R194). -/
def twoHalves (first second : Half) : Word := second ++ first

/-- The 4-bit field of a port that may be absent: 0xF when it is (R194). -/
def portField (low : Nat) (p : Option Port) : Word :=
  fieldAt low 4 (match p with | some q => q.val | none => 15)

/-- The port a parameter word names, if it is 0 to 3. -/
def portOfWord (w : Word) : Option Port :=
  if h : w.toNat < 4 then some ⟨w.toNat, h⟩ else none

/-- The bits 15:0 of a word as a number. -/
def lowHalf (w : Word) : Nat := w.toNat % 65536

/-- The bits 31:16 of a word as a number. -/
def highHalf (w : Word) : Nat := w.toNat / 65536

/-- The on or off value of a setting command: 0 is off, 1 is on, any other value is none (R115). -/
def settingOfWord (w : Word) : Option Bool :=
  if w = 0 then some false else if w = 1 then some true else none

/-- The cell state of a state code, none above 5 (R79, R93). -/
def cellOfWord (w : Word) : Option CellState :=
  if w = 0 then some .unknown else if w = 1 then some .clear else if w = 2 then some .suspect
  else if w = 3 then some .blocked else if w = 4 then some .fixedClear else if w = 5 then some .fixedBlocked else none

/-! ## Angles and map geometry (Conventions, R78) -/

/-- The signed wrap difference of two azimuths, −32768..32767. -/
def azimuthDiff (a b : Half) : Int := (a - b).toInt

/-- The signed wrap difference of two columns, −256..255 (R78). -/
def columnDiff (c1 c0 : Nat) : Int := ((c1 : Int) - c0 + 256) % 512 - 256

/-- The column of an azimuth: its upper nine bits (R78). -/
def columnOf (az : Half) : Nat := az.toNat / 128

/-- The row of an elevation, possibly outside 0..127 (R78). -/
def rowOf (el : Half) : Int := (el.toInt + 8192) / 128

/-- Whether a row lies on the map. -/
def rowOnMap (r : Int) : Bool := decide (0 ≤ r) && decide (r < Config.mapRows)

/-- The address of a cell in the four maps together: 65536 · station + cell index (R78). -/
def cellAddress (p : Port) (column row : Nat) : Nat := Config.mapCells * p.val + row * Config.mapColumns + column

/-- The address of the cell a bearing falls in; none off the map (R78). -/
def bearingCell (p : Port) (az el : Half) : Option Nat :=
  if rowOnMap (rowOf el) then some (cellAddress p (columnOf az) (rowOf el).toNat) else none

end Sys2Proof.Machine
end

