-- ==== Sys2Proof/Machine/Frames.lean ====
section
/-! DEFINITION. Frames on the station links (07_station_links.md, layouts R192): the characters of an inbound frame, the judgement of a
received frame (R149, R151), the fields of a good one, and the characters of an outbound frame. -/

namespace Sys2Proof.Machine

/-! ## Control characters and the parity of a character (R144, R192) -/

/-- The six control character codes (R192). -/
def sofCode : Byte := 0xA1
def eofCode : Byte := 0xA2
def ackCode : Byte := 0xA3
def nakCode : Byte := 0xA4
def idleCode : Byte := 0xA5
def brkCode : Byte := 0xA6

/-- Whether a control value is one of the six codes (R144). -/
def isControlCode (v : Byte) : Bool := [sofCode, eofCode, ackCode, nakCode, idleCode, brkCode].contains v

/-- The ten bits of a character in the order sent: the control flag, the value bits from least significant to most, the parity
bit (R192), each as 0 or 1. -/
def characterBits (control : Bool) (v : Byte) : List Nat :=
  let body := control.toNat :: (List.range 8).map fun i => (v.getLsbD i).toNat
  body ++ [(body.sum + 1) % 2]

/-- The class of ten received bits (R144): a parity error where their ones are even, otherwise data or control by the first bit. -/
def classifyBits (bits : List Nat) : LineChar :=
  if bits.sum % 2 = 0 then .parityError
  else
    let v : Byte := BitVec.ofNat 8 ((List.range 8).foldl (fun a i => a + bits.getD (i + 1) 0 * 2 ^ i) 0)
    if bits.getD 0 0 = 1 then .control v else .data v

/-! ## Inbound frames -/

/-- Frame kinds a station sends (R192). -/
def kindObs : Byte := 0x10
def kindLock : Byte := 0x11
def kindBreak : Byte := 0x12
def kindBearing : Byte := 0x13
def kindFail : Byte := 0x14
def kindIdent : Byte := 0x15
def kindPass : Byte := 0x1F

/-- The sum of bytes, modulo 256. -/
def byteSum (l : List Byte) : Byte := l.foldl (fun a b => a + b) 0

/-- Kind, seq, length and payload, and the check byte that makes their sum 0 modulo 256 (R145). -/
def frameBytes (kind seq : Byte) (payload : List Byte) : List Byte :=
  let body := kind :: seq :: BitVec.ofNat 8 payload.length :: payload
  body ++ [-(byteSum body)]

/-- The characters of a frame (R145, R192): SOF, its data characters, EOF. -/
def frameChars (kind seq : Byte) (payload : List Byte) : List LineChar :=
  .control sofCode :: (frameBytes kind seq payload).map .data ++ [.control eofCode]

/-- The payload of an OBS or LOCK (R192). -/
def obsPayload (r : ObsReport) : List Byte :=
  wordBytes r.x ++ wordBytes r.y ++ wordBytes r.z ++ halfBytes r.az ++ halfBytes r.el ++ halfBytes r.latency ++
  [r.level, r.flags]

/-- The payload of a BREAK (R192). -/
def breakPayload (r : BreakReport) : List Byte :=
  halfBytes r.az ++ halfBytes r.el ++ halfBytes r.latency ++ [r.reason, r.reserved]

/-- The payload of a BEARING (R192). -/
def bearingPayload (r : BearingReport) : List Byte := [r.tag, r.reach] ++ halfBytes r.az ++ halfBytes r.el

/-- The payload of an IDENT (R192). -/
def identityPayload (i : Identity) : List Byte :=
  halfBytes i.maker ++ halfBytes i.model ++ wordBytes i.serial ++ halfBytes i.firmware ++ halfBytes i.capability

/-- The fields of an OBS or LOCK payload. -/
def readObs (l : List Byte) : ObsReport where
  x := wordAt l 0
  y := wordAt l 4
  z := wordAt l 8
  az := halfAt l 12
  el := halfAt l 14
  latency := halfAt l 16
  level := byteAt l 18
  flags := byteAt l 19

/-- The fields of a BREAK payload. -/
def readBreak (l : List Byte) : BreakReport := ⟨halfAt l 0, halfAt l 2, halfAt l 4, byteAt l 6, byteAt l 7⟩

/-- The fields of a BEARING payload. -/
def readBearing (l : List Byte) : BearingReport := ⟨byteAt l 0, byteAt l 1, halfAt l 2, halfAt l 4⟩

/-- The fields of an IDENT payload. -/
def readIdentity (l : List Byte) : Identity := ⟨halfAt l 0, halfAt l 2, wordAt l 4, halfAt l 8, halfAt l 10⟩

/-! ## The judgement of a frame that has ended (R149, R151) -/

/-- How a frame ended for judgement (R148). -/
inductive FrameEnd where
  | eof | overlong | sof
  deriving DecidableEq, Repr

/-- The contents of a good frame (R151, R192). -/
inductive GoodFrame where
  | obs (seq : Byte) (report : ObsReport)
  | lock (seq : Byte) (report : ObsReport)
  | beamBreak (report : BreakReport)
  | bearing (report : BearingReport)
  | fail (orderKind reason : Byte)
  | ident (identity : Identity)
  | pass (payload : List Byte)
  deriving DecidableEq, Repr

/-- The judgement of a frame: it fails a check of R149 or of R151, with the cause and position captured, or it is good. -/
inductive Verdict where
  | failed (cause : CaptureCause) (position : Nat)
  | badFormat (position : Nat)
  | good (frame : GoodFrame)
  deriving DecidableEq, Repr

/-- Whether a frame character is a parity error. -/
def isParityErrorChar (c : LineChar) : Bool := decide (c = .parityError)

/-- Whether a frame character is a control character (an unassigned one: the six are never collected). -/
def isControlChar (c : LineChar) : Bool :=
  match c with
  | .control _ => true
  | _ => false

/-- The byte of a data character. -/
def charByte (c : LineChar) : Option Byte :=
  match c with
  | .data b => some b
  | _ => none

/-- The data characters' bytes among collected frame characters. -/
def dataBytes (chars : List LineChar) : List Byte := chars.filterMap charByte

/-- The frame position of the first collected character a test picks: collected character i stands at position i + 1 (R148). -/
def firstPosition (test : LineChar → Bool) (chars : List LineChar) : Option Nat :=
  (chars.findIdx? test).map (· + 1)

/-- The format checks of R151 on the data characters of a frame that passed R149: kind, length, field values. -/
def judgeFormat (bytes : List Byte) : Verdict :=
  let kind := byteAt bytes 0
  let seq := byteAt bytes 1
  let length := (byteAt bytes 2).toNat
  let payload := (bytes.drop 3).take length
  if kind = kindObs then (if length = 20 then .good (.obs seq (readObs payload)) else .badFormat 3)
  else if kind = kindLock then (if length = 20 then .good (.lock seq (readObs payload)) else .badFormat 3)
  else if kind = kindBreak then
    (if length = 8 then
      (if 1 ≤ (byteAt payload 6).toNat ∧ (byteAt payload 6).toNat ≤ 3 then .good (.beamBreak (readBreak payload))
       else .badFormat 10)
     else .badFormat 3)
  else if kind = kindBearing then
    (if length = 6 then
      (if (byteAt payload 1).toNat ≤ 1 then .good (.bearing (readBearing payload)) else .badFormat 5)
     else .badFormat 3)
  else if kind = kindFail then
    (if length = 2 then .good (.fail (byteAt payload 0) (byteAt payload 1)) else .badFormat 3)
  else if kind = kindIdent then (if length = 12 then .good (.ident (readIdentity payload)) else .badFormat 3)
  else if kind = kindPass then (if length ≤ 24 then .good (.pass payload) else .badFormat 3)
  else .badFormat 1

/-- The seven checks of R149 in order, then the format checks of R151. The characters are those after the SOF; an ending EOF or
SOF stands at the position after the last of them. DESIGN CHOICE: where check 2 finds several unassigned control characters, or one and an
ending SOF, its position is that of the first unassigned control character (notes/assumptions/33.md). -/
def judgeFrame (chars : List LineChar) (ending : FrameEnd) : Verdict :=
  let bytes := dataBytes chars
  match firstPosition isParityErrorChar chars with
  | some n => .failed .parity n
  | none =>
    match firstPosition isControlChar chars with
    | some n => .failed .check n
    | none =>
      if ending = .sof then .failed .check (chars.length + 1)
      else if ending = .overlong then .failed .check 29
      else if bytes.length < 4 then .failed .check (chars.length + 1)
      else if 24 < (byteAt bytes 2).toNat then .failed .check 3
      else if bytes.length ≠ (byteAt bytes 2).toNat + 4 then .failed .check (chars.length + 1)
      else if byteSum bytes ≠ 0 then .failed .check chars.length
      else judgeFormat bytes

/-- The kind byte an error capture takes: position 1, if it was received as a good data character (R150). -/
def capturedKind (chars : List LineChar) : Option Byte := chars.head?.bind charByte

/-! ## Outbound frames (R163, R192) -/

/-- The four bytes of a coordinate. -/
def coordinateBytes (n : Int) : List Byte := wordBytes (intWord n)

/-- The twelve bytes of a point. -/
def pointBytes (v : Vec3) : List Byte := coordinateBytes v.x ++ coordinateBytes v.y ++ coordinateBytes v.z

/-- The payload of an outbound frame (R192). -/
def OutFrame.payload (f : OutFrame) : List Byte :=
  match f with
  | .idreq => []
  | .point tag v => tag :: pointBytes v
  | .take v => pointBytes v
  | .search none => []
  | .search (some (v, radius)) => pointBytes v ++ wordBytes (BitVec.ofNat 32 radius)
  | .release reason => [BitVec.ofNat 8 reason.code]
  | .pass bytes => bytes

/-- The characters a frame in flight goes out as (R145, R157). -/
def InFlight.chars (f : InFlight) : List LineChar := frameChars f.frame.kindCode f.seq f.frame.payload

end Sys2Proof.Machine
end

