-- ==== Sys2Proof/Machine/Ops.lean ====
section
/-! DEFINITION. The named updates of the part, block by block, and the readings of a station that several blocks judge by. -/

namespace Sys2Proof.Machine

/-- The track record changed by f. -/
def Device.onTrack (d : Device) (f : Track → Track) : Device := { d with track := f d.track }

/-- One station record changed by f. -/
def Device.onStation (d : Device) (p : Port) (f : Station → Station) : Device :=
  { d with stations := d.stations.set p (f (d.stations.get p)) }

/-- The transform unit changed by f. -/
def Device.onXfu (d : Device) (f : Xfu → Xfu) : Device := { d with xfu := f d.xfu }

/-- One link port changed by f. -/
def Device.onPort (d : Device) (p : Port) (f : LinkPort → LinkPort) : Device :=
  { d with ports := d.ports.set p (f (d.ports.get p)) }

/-- The sight map unit changed by f. -/
def Device.onSmu (d : Device) (f : Smu → Smu) : Device := { d with smu := f d.smu }

/-- The record output engine changed by f. -/
def Device.onEngine (d : Device) (f : Engine → Engine) : Device := { d with engine := f d.engine }

/-- The system bus interface changed by f. -/
def Device.onSbi (d : Device) (f : Sbi → Sbi) : Device := { d with sbi := f d.sbi }

/-- A notice source raised (R183). -/
def Device.raise (d : Device) (n : Notice) : Device := { d with notices := d.notices.raise n }

/-- The track's deadlines changed by f. -/
def Device.onDeadlines (d : Device) (f : Deadlines → Deadlines) : Device :=
  d.onTrack fun t => { t with deadlines := f t.deadlines }

/-- The track's counters changed by f. -/
def Device.onTrackCounters (d : Device) (f : TrackCounters → TrackCounters) : Device :=
  d.onTrack fun t => { t with counters := f t.counters }

/-- Whether a station has a transform: its transform record is loaded (section 6.1). -/
def Device.hasTransform (d : Device) (p : Port) : Bool := (d.xfu.records.get p).loaded

/-- A station's state. -/
def Device.stationState (d : Device) (p : Port) : StationState := (d.stations.get p).state

/-- Whether a station is eligible to search (R31), which is also the condition for being queried (R37). -/
def Device.eligible (d : Device) (p : Port) : Bool :=
  decide (d.stationState p = .standby) && !(d.stations.get p).quiet && d.hasTransform p &&
    decide ((d.ports.get p).state = .accepting)

/-- Whether some station is SEARCHING. -/
def Device.anySearching (d : Device) : Bool := allPorts.any fun p => decide (d.stationState p = .searching)

/-- Whether some port is in search_pending. -/
def Device.anyPending (d : Device) : Bool := allPorts.any fun p => d.track.searchPending.get p

/-- A station's state set. -/
def Device.setStationState (d : Device) (p : Port) (s : StationState) : Device :=
  d.onStation p fun st => { st with state := s }

/-- A learning request sent to the sight map unit (R82). -/
def Device.sendLearning (d : Device) (r : LearnRequest) : Device :=
  d.onSmu fun m => { m with learnQueue := m.learnQueue ++ [r] }

/-- An inverse request joins the query queue: it takes the place of a waiting request for the same station, or joins at the
back (R133). -/
def Xfu.placeInverse (x : Xfu) (r : InverseRequest) : Xfu :=
  { x with queryQueue :=
      if x.queryQueue.any (fun q => decide (q.station = r.station))
      then x.queryQueue.map (fun q => if q.station = r.station then r else q)
      else x.queryQueue ++ [r] }

/-- The outcome of a command that leaves the part as given; the queue of waiting commands is untouched. -/
def State.answer (s : State) (d : Device) : Host.Outcome State Fault Refusal := .next { s with device := d }

end Sys2Proof.Machine
end

