-- ==== Sys2Proof/Machine/OrderOps.lean ====
section
/-! DEFINITION. Orders of the track unit to the stations (R28, R29, R160): placing and withdrawing an order, RELEASE, and the end of a
station's role. -/

namespace Sys2Proof.Machine

/-- Whether a control-queue frame is an order, a TAKE or a SEARCH. -/
def OutFrame.isOrder (f : OutFrame) : Bool :=
  match f with
  | .take _ | .search _ => true
  | _ => false

/-- Whether a control-queue frame is a RELEASE. -/
def OutFrame.isRelease (f : OutFrame) : Bool :=
  match f with
  | .release _ => true
  | _ => false

/-- Whether a control-queue frame was placed by the host. -/
def OutFrame.isPass (f : OutFrame) : Bool :=
  match f with
  | .pass _ => true
  | _ => false

/-- A frame placed at the back of a port's control queue (R160). -/
def LinkPort.place (l : LinkPort) (f : OutFrame) : LinkPort := { l with control := l.control ++ [f] }

/-- The frame in flight is no longer its station's current order (R28). -/
def InFlight.notCurrent (f : InFlight) : InFlight := { f with current := false }

/-- An unsent order is withdrawn, and an order in flight stops being current (R28). -/
def LinkPort.endOrder (l : LinkPort) : LinkPort :=
  { l with
    control := l.control.filter fun f => !f.isOrder
    sending := match l.sending with
      | .idle => .idle
      | .sending f sent => .sending f.notCurrent sent
      | .awaiting f => .awaiting f.notCurrent }

/-- A RELEASE placed, or the reason of the one that still waits replaced (R29). -/
def LinkPort.placeRelease (l : LinkPort) (reason : ReleaseReason) : LinkPort :=
  if l.control.any OutFrame.isRelease then
    { l with control := l.control.map fun f => if f.isRelease then .release reason else f }
  else l.place (.release reason)

/-- The end of a station's role: its order stops being current (R28). -/
def Device.endRole (d : Device) (p : Port) : Device :=
  (d.onPort p LinkPort.endOrder).onTrack fun t => { t with currentOrder := t.currentOrder.set p none }

/-- A station without its role: STANDBY, or ABSENT where its link is down (R27), its order no longer current. -/
def Device.standDown (d : Device) (p : Port) : Device :=
  (d.setStationState p (if d.stationState p = .absent then .absent else .standby)).endRole p

/-- A RELEASE placed for a port, unless its station is ABSENT (R29). -/
def Device.sendRelease (d : Device) (p : Port) (reason : ReleaseReason) : Device :=
  if d.stationState p = .absent then d else d.onPort p fun l => l.placeRelease reason

/-- A station released (R29): the RELEASE, and STANDBY in the same event. -/
def Device.releaseStation (d : Device) (p : Port) (reason : ReleaseReason) : Device := (d.sendRelease p reason).standDown p

/-- Every SEARCHING station but one released with a reason, in port order. -/
def Device.releaseSearching (d : Device) (reason : ReleaseReason) (except_ : Option Port) : Device :=
  allPorts.foldl
    (fun d p => if d.stationState p = .searching ∧ some p ≠ except_ then d.releaseStation p reason else d) d

/-- An order placed for a port becomes its station's current order, and late_port becomes absent if it named the port (R28, R8). -/
def Device.placeOrder (d : Device) (p : Port) (kind : OrderKind) (f : OutFrame) : Device :=
  (d.onPort p fun l => l.place f).onTrack fun t =>
    { t with
      currentOrder := t.currentOrder.set p (some kind)
      latePort := if t.latePort = some p then none else t.latePort }

/-- A SEARCH sent to a station, which becomes SEARCHING (R31, R69). -/
def Device.sendSearch (d : Device) (p : Port) (target : Option (Vec3 × Nat)) : Device :=
  (d.placeOrder p .search (.search target)).setStationState p .searching

end Sys2Proof.Machine
end

