-- ==== Sys2Proof/Machine/EngineOps.lean ====
section
/-! DEFINITION. The record output engine (08_the_record_output_engine.md): the record FIFO, address windows, the layouts it writes and
reads in host memory, descriptor fetch, buffer close, flush, errors and held actions. -/

namespace Sys2Proof.Machine

/-! ## Addresses (R172) -/

/-- The low bits of an engine address that a window passes on. -/
def Window.lowBits (w : Window) (a : Word) : Word := a &&& ((1#32 <<< w.exponent) - 1#32)

/-- The bus address one window gives an engine address, if the window is enabled and the address lies in it (R172). -/
def Window.translate (w : Window) (a : Word) : Option Word :=
  if w.enabled && decide (a >>> w.exponent = w.base >>> w.exponent) then
    some (((w.target >>> w.exponent) <<< w.exponent) ||| w.lowBits a)
  else none

/-- The bus address of an engine address: window 0 first, then window 1 (R172). -/
def Engine.translate (e : Engine) (a : Word) : Option Word := (e.window0.translate a).or (e.window1.translate a)

/-! ## Layouts in host memory (R193) -/

/-- The bytes of a 16-bit field in the engine's byte order. -/
def halfField (big : Bool) (n : Nat) : List Byte := ordered big (halfBytes (BitVec.ofNat 16 n))

/-- The bytes of a signed 16-bit field. -/
def intHalfField (big : Bool) (n : Int) : List Byte := ordered big (halfBytes (BitVec.ofInt 16 n))

/-- The bytes of a 32-bit field. -/
def wordField (big : Bool) (w : Word) : List Byte := ordered big (wordBytes w)

/-- The flags field of a record: bits 0 to 5 (R193). -/
def RecordFlags.bits (f : RecordFlags) : Nat :=
  f.sat.toNat + 2 * f.velClamped.toNat + 4 * f.latClamped.toNat + 8 * f.blind.toNat + 16 * f.longPath.toNat +
    32 * f.noCandidate.toNat

/-- The 32 bytes of a record (R193). -/
def Record.bytes (r : Record) (big : Bool) : List Byte :=
  halfField big r.seq.toNat ++ [BitVec.ofNat 8 r.kind.code, r.source] ++ wordField big r.time ++
  wordField big (intWord r.position.x) ++ wordField big (intWord r.position.y) ++ wordField big (intWord r.position.z) ++
  intHalfField big r.velocity.x ++ intHalfField big r.velocity.y ++ intHalfField big r.velocity.z ++
  halfField big r.residual ++ halfField big r.flags.bits ++ [BitVec.ofNat 8 r.state.code, r.last]

/-- The 8 bytes of a completion status (R177, R193). -/
def completionBytes (big : Bool) (written : Nat) (status : CompletionStatus) (error : Option EngineError) (lastSeq : Half) :
    List Byte :=
  halfField big written ++ [BitVec.ofNat 8 status.code, BitVec.ofNat 8 (engineErrorCode error)] ++
  halfField big lastSeq.toNat ++ halfField big 0

/-- The bytes of a 128-bit read, lowest address first: byte k in bits 8k+7..8k. -/
def descriptorBytes (answer : BitVec 128) : List Byte :=
  (List.range 16).map fun k => answer.extractLsb' (8 * k) 8

/-- The descriptor at an address, from the 16 bytes read there (R193): the reserved field is ignored, the running values are 0. -/
def readDescriptor (address : Word) (big : Bool) (answer : BitVec 128) : Descriptor :=
  let l := descriptorBytes answer
  let word := fun i => wordAt (ordered big ((l.drop i).take 4)) 0
  { address := address
    buffer := word 0
    capacity := halfAt (ordered big ((l.drop 4).take 2)) 0
    next := word 8
    writeback := word 12
    written := 0
    lastSeq := 0 }

/-- The value of a 4-byte read whose byte k stands in bits 8k+7..8k (R173). -/
def readField (big : Bool) (answer : Word) : Word := wordAt (ordered big (wordBytes answer)) 0

/-! ## The FIFO (R166, R167) -/

/-- A produced record joins the FIFO, or is dropped when the engine is DISABLED or the FIFO holds sixteen (R166, R167). -/
def Engine.join (e : Engine) (r : Record) : Engine :=
  if e.state = .disabled ∨ Config.fifoCapacity ≤ e.fifo.length then
    { e with produced := e.produced + 1, dropped := e.dropped + 1 }
  else { e with produced := e.produced + 1, fifo := e.fifo ++ [r] }

/-! ## Errors (R180) -/

/-- An error is taken: code and address, the flush cleared, HALTED, RECORD_ERROR (R180). -/
def Device.engineError (d : Device) (code : EngineError) (address : Word) : Device :=
  (d.onEngine fun e =>
    { e with error := some code, errorAddress := address, flush := none, state := .halted, bufferOpen := false,
             access := none }).raise .recordError

/-- The ERROR completion of a descriptor with a valid writeback place, begun after its error was taken (R180). -/
def Device.reportError (d : Device) (c : Descriptor) (code : EngineError) : Device :=
  match (if c.writeback.toNat % 8 = 0 then d.engine.translate c.writeback else none) with
  | some bus => d.onEngine fun e =>
      { e with access := some (.writeback .errorReport c.address c.writeback bus
          (completionBytes e.bigEndian c.written .error (some code) c.lastSeq)) }
  | none => d

/-! ## Fetching a descriptor (R175) -/

/-- A fetch begins for the current descriptor's address: checks 1 and 2, then the read is issued. -/
def Device.beginFetch (d : Device) : Device :=
  match d.engine.current with
  | none => d
  | some c =>
    if c.address.toNat % 16 ≠ 0 then d.engineError .align c.address
    else match d.engine.translate c.address with
      | none => d.engineError .address c.address
      | some bus => d.onEngine fun e => { e with access := some (.descriptorRead c.address bus e.bigEndian) }

/-- The address that check 4 or 5 names, from whether the buffer and the writeback address fail it (R180): where both fail, one of the
two by a free value (notes/assumptions/17.md). -/
def Descriptor.failing (c : Descriptor) (bufferFails writebackFails : Bool) : Option Word :=
  match bufferFails, writebackFails with
  | true, true => some (if Config.namesWriteback c.buffer c.writeback then c.writeback else c.buffer)
  | true, false => some c.buffer
  | false, true => some c.writeback
  | false, false => none

/-- The address that fails check 4, if one does (R175). -/
def Descriptor.misaligned (c : Descriptor) : Option Word :=
  c.failing (decide (c.buffer.toNat % 32 ≠ 0)) (decide (c.writeback.toNat % 8 ≠ 0))

/-- The address that fails check 5, if one does (R175). -/
def Engine.untranslated (e : Engine) (c : Descriptor) : Option Word :=
  c.failing (e.translate c.buffer).isNone (e.translate c.writeback).isNone

/-- Checks 4 to 7 on a descriptor that was read (R175): the code and the address the error concerns. -/
def Engine.descriptorFault (e : Engine) (c : Descriptor) : Option (EngineError × Word) :=
  if let some a := c.misaligned then some (.align, a)
  else if let some a := e.untranslated c then some (.address, a)
  else if c.capacity.toNat = 0 ∨ 128 < c.capacity.toNat then some (.capacity, c.address)
  else if 4096 < c.buffer.toNat % 4096 + 32 * c.capacity.toNat then some (.pageCross, c.address)
  else none

/-! ## Closing a buffer (R177) -/

/-- The writeback that closes a descriptor's buffer begins. Its address may lie in no window: that is an error of its own, after
which DISABLE's final writeback leaves the engine DISABLED (R170, R180). -/
def Device.beginWriteback (d : Device) (purpose : WritebackPurpose) (status : CompletionStatus) (c : Descriptor) : Device :=
  match d.engine.translate c.writeback with
  | some bus => d.onEngine fun e =>
      { e with access := some (.writeback purpose c.address c.writeback bus
          (completionBytes e.bigEndian c.written status none c.lastSeq)) }
  | none =>
    if purpose = .final then
      (d.onEngine fun e => { e with error := some .address, errorAddress := c.writeback }).raise .recordError
    else d.engineError .address c.writeback

/-- The open buffer closes with COMPLETE or PARTIAL, and its writeback begins. -/
def Device.closeBuffer (d : Device) (status : CompletionStatus) : Device :=
  match d.engine.current with
  | none => d
  | some c => (d.onEngine fun e => { e with bufferOpen := false }).beginWriteback .followChain status c

/-! ## Flush (R178) -/

/-- A flush is taken. In FETCHING and RUNNING it marks the records now in the FIFO; with none there, it closes an open buffer
that holds a record at once. Elsewhere it changes nothing. -/
def Device.flush (d : Device) : Device :=
  if d.engine.state = .fetching ∨ d.engine.state = .running then
    if d.engine.fifo = [] then
      let cleared := d.onEngine fun e => { e with flush := none }
      match d.engine.bufferOpen, d.engine.current with
      | true, some c => if 0 < c.written then cleared.closeBuffer .partialFill else cleared
      | _, _ => cleared
    else d.onEngine fun e => { e with flush := some e.fifo.length }
  else d

/-! ## Actions (R169, R170, R171, R174) -/

/-- Whether a record write or a completion writeback is in flight (R171). -/
def Engine.writeInFlight (e : Engine) : Bool :=
  match e.access with
  | some (.recordWrite ..) => true
  | some (.writeback ..) => true
  | _ => false

/-- Whether a held ROE_START keeps the command register pending (R188). -/
def Engine.startHeld (e : Engine) : Bool :=
  match e.held with
  | some (.start _) => true
  | _ => false

/-- The descriptor a START names, its other fields cleared (R174). -/
def freshDescriptor (address : Word) : Descriptor := ⟨address, 0, 0, 0, 0, 0, 0⟩

/-- A START is taken (R174): an open buffer is closed HALTED_BY_START and the fetch waits for that writeback, or the fetch
begins at once. -/
def Device.takeStart (d : Device) (address : Word) : Device :=
  let begun := d.onEngine fun e =>
    { e with error := none, errorAddress := 0, flush := none, access := none, bufferOpen := false,
             current := some (freshDescriptor address), state := .fetching }
  match d.engine.bufferOpen, d.engine.current with
  | true, some c => begun.beginWriteback .beforeFetch .haltedByStart c
  | _, _ => begun.beginFetch

/-- An ENABLE is taken (R169). -/
def Device.takeEnable (d : Device) : Device :=
  d.onEngine fun e => if e.state = .disabled then { e with state := .idle } else e

/-- A DISABLE is taken (R170). -/
def Device.takeDisable (d : Device) : Device :=
  if d.engine.state = .disabled then d
  else
    let emptied := d.onEngine fun e =>
      { e with access := none, bufferOpen := false, dropped := e.dropped + BitVec.ofNat 32 e.fifo.length, fifo := [],
               flush := none, state := .disabled }
    match d.engine.bufferOpen, d.engine.current with
    | true, some c => if 0 < c.written then emptied.beginWriteback .final .partialFill c else emptied
    | _, _ => emptied

/-- An ENGINE_RESET is taken (R169). -/
def Device.takeEngineReset (d : Device) : Device :=
  d.onEngine fun e =>
    { Engine.reset with
      window0 := e.window0, window1 := e.window1, bigEndian := e.bigEndian, flushOnLost := e.flushOnLost }

/-- The command status set (R188). -/
def Device.setStatus (d : Device) (code : Byte) (outcome : CommandOutcome) (reason : RefusalReason) : Device :=
  d.onSbi fun b => { b with status := ⟨code, outcome, reason⟩ }

/-- A held ROE_START that is replaced reads REFUSED with STATE (R171, R188). -/
def Device.dropHeldStart (d : Device) : Device :=
  if d.engine.startHeld then d.setStatus 0x40 .refused .state else d

/-- At the end of a write, once that end has had its own effect, a held action is taken, unless another write has begun (R171). -/
def Device.takeHeld (d : Device) : Device :=
  if d.engine.writeInFlight then d
  else
    let free := d.onEngine fun e => { e with held := none }
    match d.engine.held with
    | none => d
    | some (.start a) => (free.takeStart a).setStatus 0x40 .done .nothing
    | some .enable => free.takeEnable
    | some .disable => free.takeDisable
    | some .engineReset => free.takeEngineReset

/-- The settings that every write of the engine control word stores (R169, R173). -/
def Device.storeSettings (d : Device) (bigEndian flushOnLost : Bool) : Device :=
  d.onEngine fun e => { e with bigEndian := bigEndian, flushOnLost := flushOnLost }

/-- An ENABLE written: taken, or held while a write is in flight and no action is held (R171). -/
def Device.enableAction (d : Device) : Device :=
  if d.engine.writeInFlight then
    (if d.engine.held = none then d.onEngine fun e => { e with held := some .enable } else d)
  else d.takeEnable

/-- A DISABLE written: taken, or held, replacing any held action but ENGINE_RESET (R171). -/
def Device.disableAction (d : Device) : Device :=
  if d.engine.writeInFlight then
    (if d.engine.held = some .engineReset then d
     else d.dropHeldStart.onEngine fun e => { e with held := some .disable })
  else d.takeDisable

/-- An ENGINE_RESET written: taken, or held, replacing any held action (R171). -/
def Device.engineResetAction (d : Device) : Device :=
  if d.engine.writeInFlight then d.dropHeldStart.onEngine fun e => { e with held := some .engineReset }
  else d.takeEngineReset

/-- A write of the engine control word (R169, bits R194): the settings, then one action, ENGINE_RESET before DISABLE before
ENABLE. -/
def Device.engineControl (d : Device) (w : Word) : Device :=
  let set := d.storeSettings (w.getLsbD 8) (w.getLsbD 9)
  if w.getLsbD 2 then set.engineResetAction
  else if w.getLsbD 1 then set.disableAction
  else if w.getLsbD 0 then set.enableAction
  else set

/-! ## The engine's own events -/

/-- The engine begins the write of the FIFO's oldest record (R176): RUNNING, a buffer open and not full, no access in
flight. Otherwise no write begins. -/
def Device.beginRecordWrite (d : Device) : Device :=
  match d.engine.state, d.engine.bufferOpen, d.engine.access, d.engine.fifo, d.engine.current with
  | .running, true, none, r :: _, some c =>
    if c.written < c.capacity.toNat then
      let address := c.buffer + BitVec.ofNat 32 (32 * c.written)
      match d.engine.translate address with
      | some bus => d.onEngine fun e => { e with access := some (.recordWrite address bus (r.bytes e.bigEndian)) }
      | none => (d.engineError .address address).reportError c .address
    else d
  | _, _, _, _, _ => d

/-- The current descriptor after one more record has landed in its buffer (R176). -/
def Descriptor.landed (c : Descriptor) (r : Record) : Descriptor := { c with written := c.written + 1, lastSeq := r.seq }

/-- The write of the FIFO's oldest record ended without error (R176, R178): the record leaves the FIFO, and the buffer closes when
it is full or when a pending flush has counted its last record. -/
def Device.recordLanded (d : Device) (r : Record) (rest : List Record) (c : Descriptor) : Device :=
  let full : Bool := decide (c.written + 1 = c.capacity.toNat)
  let left := d.engine.flush.map (· - 1)
  let landed := d.onEngine fun e =>
    { e with access := none, fifo := rest, written := e.written + 1, current := some (c.landed r),
             flush := if left = some 0 then none else left }
  if full then landed.closeBuffer .complete
  else if left = some 0 then landed.closeBuffer .partialFill
  else landed

/-- The record write in flight ends (R176, R180), and then a held action is taken. With no record write in flight nothing ends. -/
def Device.endRecordWrite (d : Device) (ok : Bool) : Device :=
  match d.engine.access, d.engine.fifo, d.engine.current with
  | some (.recordWrite address _ _), r :: rest, some c =>
    (if ok then d.recordLanded r rest c else (d.engineError .bus address).reportError c .bus).takeHeld
  | _, _, _ => d

/-- The chain is followed past a closed buffer (R177). -/
def Device.followChain (d : Device) (descriptor : Word) : Device :=
  let closed := (d.onEngine fun e => { e with access := none, lastDescriptor := descriptor }).raise .bufferDone
  match d.engine.current with
  | none => closed
  | some c =>
    if c.next = 0 then
      (closed.onEngine fun e => { e with state := .starved, flush := none }).raise .chainEnd
    else
      (closed.onEngine fun e => { e with state := .fetching, current := some { c with address := c.next } }).beginFetch

/-- The own effect of a writeback's end (R170, R174, R177, R180). -/
def Device.writebackEnded (d : Device) (purpose : WritebackPurpose) (descriptor address : Word) (ok : Bool) : Device :=
  let free := d.onEngine fun e => { e with access := none }
  match purpose, ok with
  | .followChain, true => d.followChain descriptor
  | .followChain, false => d.engineError .bus address
  | .final, true => free.raise .bufferDone
  | .final, false => (free.onEngine fun e => { e with error := some .bus, errorAddress := address }).raise .recordError
  | .beforeFetch, true => (free.onEngine fun e => { e with lastDescriptor := descriptor }).beginFetch
  | .beforeFetch, false => d.engineError .bus address
  | .errorReport, _ => free

/-- The completion writeback in flight ends, and then a held action is taken. With none in flight nothing ends. -/
def Device.endWriteback (d : Device) (ok : Bool) : Device :=
  match d.engine.access with
  | some (.writeback purpose descriptor address _ _) => (d.writebackEnded purpose descriptor address ok).takeHeld
  | _ => d

/-- The descriptor read in flight ends with its bytes, or with a bus error (R175, checks 3 to 7). DESIGN CHOICE: the answer is that of the
read now in flight, never the late one of an abandoned read (R171), which is no event of the model (notes/assumptions/34.md). -/
def Device.endDescriptorRead (d : Device) (answer : Option (BitVec 128)) : Device :=
  match d.engine.access with
  | some (.descriptorRead address _ big) =>
    match answer with
    | none => d.engineError .bus address
    | some bytes =>
      let c := readDescriptor address big bytes
      match d.engine.descriptorFault c with
      | some (code, at_) => (d.engineError code at_).reportError c code
      | none => d.onEngine fun e =>
          { e with access := none, current := some c, bufferOpen := true, state := .running }
  | _ => d

/-- The re-read of the last descriptor's next field ends with its bytes, or with a bus error (R179). DESIGN CHOICE: the answer is that of
the re-read now in flight (notes/assumptions/34.md). -/
def Device.endReread (d : Device) (answer : Option Word) : Device :=
  match d.engine.access with
  | some (.reread _ _ big) =>
    match answer with
    | none => d.engineError .bus d.engine.lastDescriptor
    | some bytes =>
      let next := readField big bytes
      let free := d.onEngine fun e => { e with access := none }
      if next = 0 then free
      else (free.onEngine fun e =>
        { e with state := .fetching,
                 current := some { e.current.getD (freshDescriptor next) with address := next, next := next } }).beginFetch
  | _ => d

end Sys2Proof.Machine
end

