-- ==== Sys2Proof/Machine/TrackOps.lean ====
section
/-! DEFINITION. The track unit's filter and records (01_the_track.md): prediction, the four tests of an observation, the update and the
reseed, path-scan requests, record production, and a change of track state. -/

namespace Sys2Proof.Machine

/-- A transformed result, as the transform unit hands it to the track unit (section 1.3). -/
structure TrackResult where
  source : Port
  kind : ReportKind
  measured : Vec3
  sat : Bool
  az : Half
  el : Half
  time : Word
  latClamped : Bool
  seq : Byte
  deriving DecidableEq, Repr

/-! ## Prediction and the filter's arithmetic (R11 to R14) -/

/-- One coordinate predicted d µs after the last update (R11). -/
def predictAxis (x v d : Int) : Int := x + roundDiv (v * d) 1000000

/-- The track predicted at a time, exactly (R11). -/
def Track.predict (t : Track) (time : Word) : Vec3 :=
  let d := timeDiff time t.lastUpdate
  ⟨predictAxis t.position.x t.velocity.x d, predictAxis t.position.y t.velocity.y d, predictAxis t.position.z t.velocity.z d⟩

/-- The dt of an observation: its time minus last_update, signed (section 1.4). -/
def Track.age (t : Track) (time : Word) : Int := timeDiff time t.lastUpdate

/-- The residual of an observation: measured minus predicted (R11). -/
def Track.residual (t : Track) (r : TrackResult) : Vec3 := r.measured.minus (t.predict r.time)

/-- The position term of one axis (R13). -/
def positionTerm (alpha : Nat) (r : Int) : Int := roundDiv (alpha * r) 65536

/-- The velocity term of one axis (R14). -/
def velocityTerm (beta : Nat) (r dt : Int) : Int := roundDiv (beta * r * 1000000) (65536 * dt)

/-- The new position before saturation (R13). -/
def Track.rawPosition (t : Track) (p : Params) (r : TrackResult) : Vec3 :=
  let pre := t.predict r.time
  let res := t.residual r
  ⟨pre.x + positionTerm p.alpha res.x, pre.y + positionTerm p.alpha res.y, pre.z + positionTerm p.alpha res.z⟩

/-- The new velocity before clamping (R14). -/
def Track.rawVelocity (t : Track) (p : Params) (r : TrackResult) : Vec3 :=
  let dt := t.age r.time
  let res := t.residual r
  ⟨t.velocity.x + velocityTerm p.beta res.x dt, t.velocity.y + velocityTerm p.beta res.y dt,
   t.velocity.z + velocityTerm p.beta res.z dt⟩

/-- A velocity component clamped to −4,000,000..4,000,000 (R14). -/
def clampVelocity (v : Int) : Int := saturate (-Config.velocityLimit) Config.velocityLimit v

/-- A velocity clamped axis by axis (R14). -/
def Vec3.clampVelocity (v : Vec3) : Vec3 := ⟨Machine.clampVelocity v.x, Machine.clampVelocity v.y, Machine.clampVelocity v.z⟩

/-- A velocity in mm/s as a record carries it (R23). -/
def Vec3.perMillimetre (v : Vec3) : Vec3 := ⟨roundDiv v.x 1000, roundDiv v.y 1000, roundDiv v.z 1000⟩

/-! ## Records (R23 to R26) -/

/-- A record is produced: it takes record_seq, record_seq steps, and the record goes to the FIFO (R25, R166). DESIGN CHOICE: the
EVENT of an ARM or a CANCEL is no exception (notes/assumptions/30.md). -/
def Device.produce (d : Device) (r : Record) : Device :=
  (d.onTrack fun t => { t with recordSeq := t.recordSeq + 1 }).onEngine fun e => e.join { r with seq := d.track.recordSeq }

/-- The EVENT record of a change of track state, in the state after the change (R23, R24). Its seq is given by `produce`. -/
def Device.eventRecord (d : Device) (before : TrackState) (sat : Bool) : Record where
  seq := 0
  kind := .event
  source := portByte d.track.owner
  time := d.tb
  position := d.track.position
  velocity := d.track.velocity.perMillimetre
  residual := before.code
  flags := d.track.recordFlags sat false false
  state := d.track.state
  last := portByte d.track.candidate

/-- Whether the query deadline is present in a track state (R36). -/
def TrackState.queries (s : TrackState) : Bool :=
  match s with
  | .tracking | .handoff | .coast => true
  | _ => false

/-- Whether entering a track state makes the output deadline absent (R21). -/
def TrackState.endsOutput (s : TrackState) : Bool :=
  match s with
  | .idle | .search | .lost => true
  | _ => false

/-- The query deadline after a change of track state (R36). -/
def queryAfter (now : Word) (before after : TrackState) (deadline : Option Word) : Option Word :=
  if after.queries then (if before.queries then deadline else some now) else none

/-- A change of track state (R26): the state, the deadlines R36 and R21 tie to it, its EVENT record and the TRACK_STATE notice.
`sat` says that a record produced earlier in the same event carried SAT (R24). -/
def Device.changeState (d : Device) (after : TrackState) (sat : Bool) : Device :=
  let changed := d.onTrack fun t =>
    { t with
      state := after
      deadlines := { t.deadlines with
        query := queryAfter d.tb t.state after t.deadlines.query
        output := if after.endsOutput then none else t.deadlines.output } }
  (changed.produce (changed.eventRecord d.track.state sat)).raise .trackState

/-! ## Reseed and update (R10, R13, R14) -/

/-- The reseed of the track at a measured position (R10). `after` is the track state after the event (R23). -/
def Device.reseed (d : Device) (r : TrackResult) (after : TrackState) : Device :=
  let seeded := d.onTrack fun t =>
    { t with
      position := r.measured
      velocity := ⟨0, 0, 0⟩
      outlierRun := 0
      lastUpdate := r.time
      ownerAngles := some ⟨r.az, r.el, r.time⟩
      counters := { t.counters with reseeds := countUp t.counters.reseeds, accepted := countUp t.counters.accepted } }
  seeded.produce
    { seq := 0, kind := .reseed, source := portByte (some r.source), time := r.time, position := r.measured,
      velocity := ⟨0, 0, 0⟩, residual := 0, flags := d.track.recordFlags r.sat false r.latClamped, state := after, last := r.seq }

/-- Whether the record of an update carries SAT: the transform saturated, or a new coordinate did (R13, R24). -/
def Device.updateSat (d : Device) (r : TrackResult) : Bool := r.sat || (d.track.rawPosition d.params r).overflows32

/-- The filter update of R13 and R14 with its UPDATE record, outlier_run set to 0 (R12, R15). -/
def Device.update (d : Device) (r : TrackResult) (after : TrackState) : Device :=
  let velocity := d.track.rawVelocity d.params r
  let updated := d.onTrack fun t =>
    { t with
      position := (t.rawPosition d.params r).saturate32
      velocity := velocity.clampVelocity
      outlierRun := 0
      lastUpdate := r.time
      ownerAngles := some ⟨r.az, r.el, r.time⟩
      counters := { t.counters with accepted := countUp t.counters.accepted } }
  updated.produce
    { seq := 0, kind := .update, source := portByte (some r.source), time := r.time, position := updated.track.position,
      velocity := updated.track.velocity.perMillimetre, residual := min (d.track.residual r).largest 65535,
      flags := d.track.recordFlags (d.updateSat r) (decide (velocity.clampVelocity ≠ velocity)) r.latClamped,
      state := after, last := r.seq }

/-! ## Owner angles and the path scan request (R19) -/

/-- The predicted azimuth (R19). -/
def predictedAzimuth (az before : Half) (lookahead : Nat) (dt : Int) : Half :=
  BitVec.ofInt 16 (az.toNat + roundDiv (azimuthDiff az before * lookahead) dt)

/-- The predicted elevation, clamped (R19). -/
def predictedElevation (el before : Half) (lookahead : Nat) (dt : Int) : Half :=
  BitVec.ofInt 16 (saturate (-32768) 32767 (el.toInt + roundDiv ((el.toInt - before.toInt) * lookahead) dt))

/-- The path scan request of an observation about to be applied by the filter update (R19): none unless the track is TRACKING
or HANDOFF, sighted, with owner angles, and the new elevation is on the map. -/
def Device.scanRequest (d : Device) (r : TrackResult) : Option Scan :=
  match d.track.ownerAngles with
  | none => none
  | some a =>
    if (d.track.state = .tracking ∨ d.track.state = .handoff) ∧ d.track.blind = false ∧ rowOnMap (rowOf r.el) = true then
      let dt := d.track.age r.time
      some { port := r.source, startAz := r.az, startEl := r.el,
             endAz := predictedAzimuth r.az a.az d.params.lookahead dt,
             endEl := predictedElevation r.el a.el d.params.lookahead dt, result := none }
    else none

/-- A path scan asked of the sight map unit, which takes scans in the order asked (R91). -/
def Device.askScan (d : Device) (s : Option Scan) : Device :=
  match s with
  | none => d
  | some q => d.onSmu fun m => { m with scans := m.scans ++ [q] }

/-! ## An observation in the filter (R9 to R14, R19) -/

/-- The stale counter counts an observation (R9, R15, R16). -/
def Device.countStale (d : Device) : Device := d.onTrackCounters fun c => { c with stale := countUp c.stale }

/-- The reseeding test of an outlier (R12): it is counted, and at the limit it reseeds the track. -/
def Device.outlier (d : Device) (r : TrackResult) : Device :=
  let counted := d.onTrack fun t =>
    { t with outlierRun := t.outlierRun + 1, counters := { t.counters with outliers := countUp t.counters.outliers } }
  if d.params.outlierLimit ≤ d.track.outlierRun + 1 then counted.reseed r d.track.state else counted

/-- The owner's observation passes the four tests in their order (section 1.4): staleness, gap, gate, and the update. -/
def Device.observe (d : Device) (r : TrackResult) : Device :=
  let dt := d.track.age r.time
  if dt ≤ 0 then d.countStale
  else if (d.params.gap : Int) < dt then d.reseed r d.track.state
  else if (d.track.residual r).within d.params.gate then
    (d.update r d.track.state).askScan (d.scanRequest r)
  else d.outlier r

/-! ## Confirmation of a LOCK (R15, R45, R61) -/

/-- How a LOCK stands against the track. -/
inductive LockJudgement where
  | stale | pastGap | inside | outside
  deriving DecidableEq, Repr

/-- A LOCK judged by staleness, gap and HANDOFF_GATE (R45, R61). -/
def Device.judgeLock (d : Device) (r : TrackResult) : LockJudgement :=
  let dt := d.track.age r.time
  if dt ≤ 0 then .stale
  else if (d.params.gap : Int) < dt then .pastGap
  else if (d.track.residual r).within d.params.handoffGate then .inside
  else .outside

/-- The gate-free application of an accepted LOCK (R15): a reseed past the gap, otherwise the update. -/
def Device.applyLock (d : Device) (r : TrackResult) (after : TrackState) : Device :=
  if (d.params.gap : Int) < d.track.age r.time then d.reseed r after else d.update r after

/-- Whether the record of a gate-free application carries SAT (R24). -/
def Device.lockSat (d : Device) (r : TrackResult) : Bool :=
  if (d.params.gap : Int) < d.track.age r.time then r.sat else d.updateSat r

/-! ## Coast prediction (R22) -/

/-- The PREDICTED record at now (R22). -/
def Device.predictedRecord (d : Device) : Record where
  seq := 0
  kind := .predicted
  source := 0xFF
  time := d.tb
  position := (d.track.predict d.tb).saturate32
  velocity := d.track.velocity.perMillimetre
  residual := 0
  flags := d.track.recordFlags (d.track.predict d.tb).overflows32 false false
  state := d.track.state
  last := 0

end Sys2Proof.Machine
end

