-- ==== Sys2Proof/Machine/OwnershipOps.lean ====
section
/-! DEFINITION. The ownership state machine (02_beam_ownership_and_handoff.md, 03_coasting_search_and_loss.md): grading and choice, the
handoff and its ends, coast, search and loss, the routing of results, and what the track unit makes of link events. -/

namespace Sys2Proof.Machine

/-! ## Grades and choice (R38, R39) -/

/-- Grades of a station as a candidate (R38). -/
inductive Grade where
  | ineligible | held | stale | barred | poor | fair | good
  deriving DecidableEq, Repr

/-- The grade a stored cell state gives (R38). -/
def CellState.grade (c : CellState) : Grade :=
  match c with
  | .blocked | .fixedBlocked => .barred
  | .suspect => .poor
  | .unknown => .fair
  | .clear | .fixedClear => .good

/-- The grade of a station at this moment: the first line of R38's table that applies. -/
def Device.grade (d : Device) (p : Port) : Grade :=
  let s := d.stations.get p
  if d.eligible p = false ∨ d.track.owner = some p then .ineligible
  else if s.holdOff.isSome then .held
  else match s.answer with
    | none => .stale
    | some a =>
      if (d.params.bearingMaxAge : Int) < timeDiff d.tb a.time then .stale
      else if a.reach = false then .barred
      else a.cell.grade

/-- The order in which TIE_MODE examines the ports (R39). -/
def Device.tieOrder (d : Device) : List Port :=
  match d.params.tieMode with
  | .fixed => allPorts
  | .rotating =>
    let l := d.track.lastTakePort
    [l + 1, l + 2, l + 3, l]

/-- The automatic choice (R39): the first GOOD station in the order, else the first FAIR one. -/
def Device.choose (d : Device) : Option Port :=
  (d.tieOrder.find? fun p => decide (d.grade p = .good)).or (d.tieOrder.find? fun p => decide (d.grade p = .fair))

/-! ## Search and loss (R68, R72, R75) -/

/-- Entry into LOST (R75). -/
def Device.enterLost (d : Device) : Device :=
  let cleared := d.onTrack fun t => { t with searchPending := .same false, searchPoint := none, deadlines := .absent }
  let lost := (cleared.changeState .lost false).raise .trackLost
  if lost.engine.flushOnLost then lost.flush else lost

/-- The end check of a search (R72): with no station SEARCHING and search_pending empty, the track enters LOST. -/
def Device.endCheck (d : Device) : Device := if d.anySearching || d.anyPending then d else d.enterLost

/-- A search request placed for every station eligible to search, its port joining search_pending (R68). -/
def Device.placeSearches (d : Device) (point : Vec3) : Device :=
  allPorts.foldl
    (fun d p =>
      if d.eligible p then
        (d.onXfu fun x => x.placeInverse ⟨p, .search, point⟩).onTrack fun t =>
          { t with searchPending := t.searchPending.set p true }
      else d) d

/-- The owner station, if there is one, stands down without a RELEASE, and the owner field is emptied (R68). -/
def Device.dropOwner (d : Device) : Device :=
  match d.track.owner with
  | some o => (d.standDown o).onTrack fun t => { t with owner := none }
  | none => d

/-- Entry into SEARCH (R68). With no station eligible to search, LOST follows in the same event; DESIGN CHOICE: the first of the two
EVENT records then shows SEARCH, the state its own change leads to (R23, notes/assumptions/27.md). -/
def Device.enterSearch (d : Device) : Device :=
  let point := (d.track.predict d.tb).saturate32
  let frozen := d.dropOwner.onTrack fun t =>
    { t with
      searchPoint := some point
      searchPending := .same false
      blind := false
      coastExpired := false
      noCandidate := false
      deadlines := ⟨none, none, some (timeAfter d.tb d.params.searchTime), none, none⟩ }
  ((frozen.placeSearches point).changeState .search false).endCheck

/-! ## Coast and the blind handoff (R54, R59) -/

/-- blind becomes set: the coast and output deadlines start (R21, R54, R59). -/
def Device.goBlind (d : Device) : Device :=
  d.onTrack fun t =>
    { t with
      blind := true
      deadlines := { t.deadlines with
        coast := some (timeAfter d.tb d.params.coastTime)
        output := some (timeAfter d.tb d.params.outputInterval) } }

/-- A BREAK from the owner, or its link going down (R41, R54, R59, R60). -/
def Device.ownerBreak (d : Device) : Device :=
  match d.track.state with
  | .tracking => d.goBlind.changeState .coast false
  | .handoff => if d.track.blind then d else d.goBlind
  | _ => d

/-- blind becomes clear by a confirmed or accepted LOCK: the coast and output deadlines end (R21, R46, R61, R66). -/
def Device.seeAgain (d : Device) : Device :=
  d.onTrack fun t =>
    { t with blind := false, coastExpired := false, deadlines := { t.deadlines with coast := none, output := none } }

/-- path_result is returned to its empty value (R27, R61). -/
def Device.emptyPathResult (d : Device) : Device := d.onTrack fun t => { t with pathResult := .empty }

/-! ## The start of a handoff (R42) -/

/-- The point a TAKE carries: the query point of the candidate's bearing record (R42). A station that grades GOOD, FAIR, POOR or
BARRED holds an answer, and an answer stands only beside a query (R121); see notes/assumptions/18.md. -/
def Device.takePoint (d : Device) (c : Port) : Vec3 :=
  match (d.stations.get c).query with
  | some q => q.point
  | none => ⟨0, 0, 0⟩

/-- A handoff starts with a candidate (R42). -/
def Device.startHandoff (d : Device) (c : Port) : Device :=
  let ordered := (d.placeOrder c .take (.take (d.takePoint c))).setStationState c .taking
  let named := ordered.onTrack fun t =>
    { t with
      candidate := some c
      lastTakePort := c
      noCandidate := false
      deadlines := { t.deadlines with handoff := some (timeAfter d.tb d.params.handoffTimeout) } }
  named.changeState .handoff false

/-- The automatic choice acts (R40, R63): a handoff starts, or no_candidate is set. -/
def Device.tryHandoff (d : Device) : Device :=
  match d.choose with
  | some c => d.startHandoff c
  | none => d.onTrack fun t => { t with noCandidate := true }

/-! ## A failed take (R47 to R53) -/

/-- The consequences of a failed take (R47), after the reason's own actions. -/
def Device.failTake (d : Device) (c : Port) (reason : FailReason) : Device :=
  let down := (d.standDown c).onStation c fun s => { s with holdOff := some (timeAfter d.tb d.params.holdOff) }
  let failed := (down.onTrack fun t =>
    { t with
      candidate := none
      coastExpired := false
      deadlines := { t.deadlines with handoff := none }
      counters := { t.counters with handoffsFailed := countUp t.counters.handoffsFailed }
      failure := ⟨some reason, some c, d.tb⟩ }).raise .handoffFailed
  if d.track.blind then
    if d.track.coastExpired then failed.enterSearch else failed.changeState .coast false
  else failed.changeState .tracking false

/-- Failed-take learning at the answer of the candidate's bearing record, if it holds one (R49, R82). -/
def Device.learnFailedTake (d : Device) (c : Port) : Device :=
  match (d.stations.get c).answer with
  | some a => d.sendLearning ⟨.track, c, a.az, a.el, .failedTake⟩
  | none => d

/-! ## Confirmation and relock (R45, R46, R48, R61, R62, R66, R67) -/

/-- The former owner is released after a confirmed handoff (R46). -/
def Device.releaseFormerOwner (d : Device) : Device :=
  match d.track.owner with
  | some o => d.releaseStation o .handedOff
  | none => d

/-- A station becomes owner: its state, the owner field, its order no longer current, path_result emptied (R27, R28). -/
def Device.makeOwner (d : Device) (p : Port) : Device :=
  (((d.setStationState p .owner).endRole p).onTrack fun t => { t with owner := some p }).emptyPathResult

/-- A confirmed LOCK completes the handoff (R46). -/
def Device.completeHandoff (d : Device) (r : TrackResult) (c : Port) : Device :=
  let owned := ((d.seeAgain.applyLock r .tracking).releaseFormerOwner).makeOwner c
  let done := (owned.onTrack fun t =>
    { t with
      candidate := none
      deadlines := { t.deadlines with handoff := none }
      counters := { t.counters with handoffsDone := countUp t.counters.handoffsDone } }).raise .handoffDone
  done.changeState .tracking (d.lockSat r)

/-- Take confirmation (R45, R48). -/
def Device.confirmTake (d : Device) (r : TrackResult) (c : Port) : Device :=
  match d.judgeLock r with
  | .stale => (d.countStale.releaseStation c .wrongTarget).failTake c .wrongTarget
  | .outside => (d.releaseStation c .wrongTarget).failTake c .wrongTarget
  | .pastGap => d.completeHandoff r c
  | .inside => d.completeHandoff r c

/-- An accepted owner LOCK ends the blindness (R61 in COAST, R66 in HANDOFF). -/
def Device.acceptRelock (d : Device) (r : TrackResult) (o : Port) : Device :=
  let after : TrackState := if d.track.state = .coast then .tracking else d.track.state
  let seen := ((d.seeAgain.applyLock r after).setStationState o .owner).emptyPathResult
  if d.track.state = .coast then seen.changeState .tracking (d.lockSat r) else seen

/-- A candidate's take is abandoned: no failure, no RELEASE (R67). -/
def Device.abandonTake (d : Device) : Device :=
  match d.track.candidate with
  | some c => (d.standDown c).onTrack fun t =>
      { t with candidate := none, deadlines := { t.deadlines with handoff := none } }
  | none => d

/-- An owner LOCK outside the gate ends the owner's claim, and a take under way, and the track enters SEARCH (R62, R67). -/
def Device.rejectRelock (d : Device) (o : Port) : Device :=
  (((d.releaseStation o .wrongTarget).onTrack fun t => { t with owner := none }).abandonTake).enterSearch

/-- Relock confirmation (R61, R62, R66, R67). -/
def Device.confirmRelock (d : Device) (r : TrackResult) (o : Port) : Device :=
  match d.judgeLock r with
  | .stale => d.countStale.rejectRelock o
  | .outside => d.rejectRelock o
  | .pastGap => d.acceptRelock r o
  | .inside => d.acceptRelock r o

/-! ## Acquire and search resolution (R33, R70, R71) -/

/-- A LOCK wins an acquire or a search: the reseed, the new owner, the others released NOT_CHOSEN, TRACKING (R33, R70). -/
def Device.winSearch (d : Device) (r : TrackResult) : Device :=
  let owned := ((d.reseed r .tracking).makeOwner r.source).releaseSearching .notChosen (some r.source)
  let ended := owned.onTrack fun t =>
    { t with searchPending := .same false, searchPoint := none, deadlines := { t.deadlines with search := none } }
  ended.changeState .tracking r.sat

/-- Whether a LOCK falls within the radius of the search point on every axis (R70). -/
def Device.inRadius (d : Device) (r : TrackResult) : Bool :=
  match d.track.searchPoint with
  | some p => (r.measured.minus p).within d.params.searchRadius
  | none => false

/-- Search resolution (R70, R71). -/
def Device.resolveSearch (d : Device) (r : TrackResult) : Device :=
  if d.track.age r.time ≤ 0 then (d.countStale.releaseStation r.source .outOfRadius).endCheck
  else if d.inRadius r then d.winSearch r
  else (d.releaseStation r.source .outOfRadius).endCheck

/-! ## Routing (R6, R7, R8) -/

/-- A result discarded and counted in foreign_obs (R6, R8). -/
def Device.countForeign (d : Device) : Device := d.onTrackCounters fun c => { c with foreignObs := countUp c.foreignObs }

/-- A LOCK with no matching role is answered with RELEASE and counted; the source's state does not change (R8). -/
def Device.answerLock (d : Device) (p : Port) : Device :=
  (d.onTrackCounters fun c =>
    if d.track.latePort = some p then { c with lateLocks := countUp c.lateLocks }
    else { c with unsolicitedLocks := countUp c.unsolicitedLocks }).sendRelease p .unsolicited

/-- A transformed result reaches the track unit and goes where its source's role and its kind send it (R6, R7, R8). -/
def Device.routeResult (d : Device) (r : TrackResult) : Device :=
  if d.stationState r.source = .absent then d.countForeign
  else if d.track.owner = some r.source then
    (if d.track.blind = true ∧ r.kind = .lock then d.confirmRelock r r.source else d.observe r)
  else match r.kind with
    | .obs => d.countForeign
    | .lock =>
      if d.track.state = .handoff ∧ d.track.candidate = some r.source then d.confirmTake r r.source
      else if d.stationState r.source = .searching ∧ d.track.state = .acquire then d.winSearch r
      else if d.stationState r.source = .searching ∧ d.track.state = .search then d.resolveSearch r
      else d.answerLock r.source

/-- A search result reaches the track unit (R69). -/
def Device.searchResult (d : Device) (p : Port) (point : Vec3) : Device :=
  if d.track.state = .search ∧ d.track.searchPending.get p = true then
    let taken := d.onTrack fun t => { t with searchPending := t.searchPending.set p false }
    (if d.eligible p then taken.sendSearch p (some (point, d.params.searchRadius)) else taken).endCheck
  else d

/-! ## BREAK, FAIL and link events (R30, R32, R34, R72) -/

/-- A BREAK reaches the track unit (R30, R41, R50, R54, R60). -/
def Device.takeBreak (d : Device) (p : Port) : Device :=
  if d.track.owner = some p then d.ownerBreak
  else if d.track.state = .handoff ∧ d.track.candidate = some p then d.failTake p .failed
  else d

/-- A SEARCHING station has left the search without winning (R34, R72). -/
def Device.searcherLeft (d : Device) : Device :=
  match d.track.state with
  | .acquire => if d.anySearching then d else d.enterLost
  | .search => d.endCheck
  | _ => d

/-- A FAIL reaches the track unit (R30, R34, R49, R72). -/
def Device.takeFail (d : Device) (p : Port) : Device :=
  if d.track.owner = some p then d
  else if d.track.state = .handoff ∧ d.track.candidate = some p then (d.learnFailedTake p).failTake p .failed
  else if d.stationState p = .searching then (d.standDown p).searcherLeft
  else d

/-- A station in search_pending leaves the search (R72). -/
def Device.leavePending (d : Device) (p : Port) : Device :=
  if d.track.state = .search ∧ d.track.searchPending.get p = true then
    (d.onTrack fun t => { t with searchPending := t.searchPending.set p false }).endCheck
  else d

/-- The link down of a station, reported with the state it held before (R30, R8, R41, R52, R34, R72). -/
def Device.reportLinkDown (d : Device) (p : Port) (before : StationState) : Device :=
  let ended := (d.onTrack fun t => { t with latePort := if t.latePort = some p then none else t.latePort }).endRole p
  if ended.track.owner = some p then ended.ownerBreak
  else if ended.track.state = .handoff ∧ ended.track.candidate = some p then ended.failTake p .link
  else if before = .searching then ended.searcherLeft
  else ended.leavePending p

/-- A station joins the acquire search when an event has made it eligible to search (R32): `wasEligible` is its eligibility
before that event. -/
def Device.joinAcquire (d : Device) (p : Port) (wasEligible : Bool) : Device :=
  if d.track.state = .acquire ∧ d.track.acquireMask.get p = true ∧ wasEligible = false ∧ d.eligible p = true then
    d.sendSearch p none
  else d

/-- The undelivered report of an order, acted on if the order is still its station's current order (R28, R51). -/
def Device.orderUndelivered (d : Device) (p : Port) (f : InFlight) : Device :=
  if f.current then
    match f.frame with
    | .take _ => if d.track.state = .handoff ∧ d.track.candidate = some p then d.failTake p .undelivered else d
    | .search _ => d.takeFail p
    | _ => d
  else d

end Sys2Proof.Machine
end

