-- ==== Sys2Proof/Machine/MapMemory.lean ====
section
/-! DEFINITION. The cells of the four sight maps as an addressed store: what an unlisted cell reads as, a read, a write, and the one
form in which the list is kept. -/

namespace Sys2Proof.Machine

/-- What a cell that the list does not name reads as: UNKNOWN, as the clearing sweep leaves every cell (R80). -/
def unlistedCell : CellState := .unknown

/-- The state of the cell at an address. -/
def readCell (cells : List (Nat × CellState)) (a : Nat) : CellState :=
  match cells with
  | [] => unlistedCell
  | (b, v) :: rest => if a = b then v else readCell rest a

/-- The cells with the one at an address written. Writing what an unlisted cell reads as removes the entry. -/
def writeCell (cells : List (Nat × CellState)) (a : Nat) (v : CellState) : List (Nat × CellState) :=
  match cells with
  | [] => if v = unlistedCell then [] else [(a, v)]
  | (b, w) :: rest =>
    if a < b then (if v = unlistedCell then (b, w) :: rest else (a, v) :: (b, w) :: rest)
    else if a = b then (if v = unlistedCell then rest else (a, v) :: rest)
    else (b, w) :: writeCell rest a v

/-- The one form of the list: addresses strictly rising from the bound, no entry equal to what an unlisted cell reads as. -/
def cellsRising (bound : Nat) (cells : List (Nat × CellState)) : Bool :=
  match cells with
  | [] => true
  | (b, w) :: rest => decide (bound ≤ b) && decide (w ≠ unlistedCell) && cellsRising (b + 1) rest

/-- The list is in its one form. -/
def cellsWellFormed (cells : List (Nat × CellState)) : Bool := cellsRising 0 cells

end Sys2Proof.Machine
end

