-- ==== Sys2Proof/Machine/MapOps.lean ====
section
/-! DEFINITION. The sight map unit (04_sight_maps.md): learning and the learn latches, point lookups, path scans, the cell steps and ends
of map commands, the clearing sweep and the peek. -/

namespace Sys2Proof.Machine

/-- The first entry of a list that a test picks is changed; the others keep their places. -/
def changeFirst {α : Type} (test : α → Bool) (f : α → α) (l : List α) : List α :=
  match l with
  | [] => []
  | a :: rest => if test a then f a :: rest else a :: changeFirst test f rest

/-! ## Learning (R83 to R86) -/

/-- The table of R84: what an event makes of a cell. -/
def LearnEvent.apply (e : LearnEvent) (c : CellState) : CellState :=
  match c with
  | .fixedClear => .fixedClear
  | .fixedBlocked => .fixedBlocked
  | .unknown => (match e with | .seen => .clear | .lost | .failedTake => .suspect)
  | .clear => (match e with | .seen => .clear | .lost | .failedTake => .suspect)
  | .suspect => (match e with | .seen => .clear | .lost | .failedTake => .blocked)
  | .blocked => (match e with | .seen => .suspect | .lost | .failedTake => .blocked)

/-- A learning request applied to its cell (R84). -/
def Smu.learn (m : Smu) (r : LearnRequest) : Smu :=
  match bearingCell r.station r.az r.el with
  | some a => { m with cells := writeCell m.cells a (r.event.apply (readCell m.cells a)) }
  | none => m

/-- The maps a command holds (R94). -/
def MapCommand.holds (c : MapCommand) (p : Port) : Bool :=
  match c with
  | .fill s _ _ _ _ _ => decide (s = p)
  | .copy s _ _ t _ _ _ _ _ _ => decide (s = p) || decide (t = p)
  | .line s _ _ _ _ _ _ => decide (s = p)
  | .run s _ _ _ _ _ => decide (s = p)
  | .clear (some s) => decide (s = p)
  | .clear none => true

/-- Whether a running command holds a map. -/
def Smu.held (m : Smu) (p : Port) : Bool :=
  match m.running with
  | some c => c.command.holds p
  | none => false

/-- A request enters its station's learn latch, replacing and counting a held one (R85). -/
def Smu.latch (m : Smu) (r : LearnRequest) : Smu :=
  { m with
    latches := m.latches.set r.station (some r)
    learnReplaced :=
      if (m.latches.get r.station).isSome
      then m.learnReplaced.set r.station (countUp (m.learnReplaced.get r.station))
      else m.learnReplaced }

/-- A learning request judged on arrival (R83). -/
def Smu.judgeLearning (m : Smu) (learning : Bool) (r : LearnRequest) : Smu :=
  if m.sweep.isSome then m
  else if learning = false then m
  else if bearingCell r.station r.az r.el = none then m
  else if m.held r.station then m.latch r
  else m.learn r

/-- The latched request of one station applied, and the latch emptied (R86). -/
def Smu.applyLatch (m : Smu) (p : Port) : Smu :=
  match m.latches.get p with
  | some r => { m.learn r with latches := m.latches.set p none }
  | none => m

/-- The oldest learning request of a source reaches the sight map unit (R82, R83). With none on its way nothing changes. -/
def Device.takeLearning (d : Device) (source : LearnSource) : Device :=
  match d.smu.learnQueue.find? (fun r => decide (r.source = source)) with
  | some r =>
    (d.onSmu fun m => { m with learnQueue := m.learnQueue.eraseP fun r => decide (r.source = source) }).onSmu fun m =>
      m.judgeLearning (d.stations.get r.station).learning r
  | none => d

/-! ## Point lookups (R87, R88) -/

/-- The cell state of a bearing: UNKNOWN during the clearing sweep and off the map (R80, R88). -/
def Smu.lookup (m : Smu) (p : Port) (az el : Half) : CellState :=
  if m.sweep.isSome then .unknown
  else match bearingCell p az el with
    | some a => readCell m.cells a
    | none => .unknown

/-- The sight map unit takes the oldest lookup of a station that it has not yet taken (R87, R88, R120). -/
def Device.takeLookup (d : Device) (p : Port) : Device :=
  d.onSmu fun m =>
    let waits := fun l : Lookup => decide (l.station = p) && l.result.isNone
    let take := fun l : Lookup => { l with result := some (m.lookup p l.az l.el) }
    { m with lookups := changeFirst waits take m.lookups }

/-! ## Path scans (R89 to R91) -/

/-- The steps of a scan from step k on, at most `fuel` of them (R90): the obstacle step and the suspect count. -/
def scanSteps (cells : List (Nat × CellState)) (p : Port) (c0 : Nat) (r0 dc dr : Int) (n : Nat) (fuel k suspect : Nat) :
    Option Nat × Nat :=
  match fuel with
  | 0 => (none, suspect)
  | fuel + 1 =>
    let column := ((c0 : Int) + roundDiv (k * dc) n) % 512
    let row := r0 + roundDiv (k * dr) n
    if rowOnMap row then
      match readCell cells (cellAddress p column.toNat row.toNat) with
      | .blocked | .fixedBlocked => (some k, suspect)
      | .suspect => scanSteps cells p c0 r0 dc dr n fuel (k + 1) (suspect + 1)
      | _ => scanSteps cells p c0 r0 dc dr n fuel (k + 1) suspect
    else (none, suspect)

/-- The number of steps of the full path (R89). -/
def Scan.steps (s : Scan) : Nat :=
  max (columnDiff (columnOf s.endAz) (columnOf s.startAz)).natAbs (rowOf s.endEl - rowOf s.startEl).natAbs

/-- The result of a path scan (R89 to R91; R80 during the clearing sweep). -/
def Smu.scan (m : Smu) (s : Scan) : PathResult :=
  if rowOnMap (rowOf s.startEl) then
    let longPath := decide (Config.scanLimit < s.steps)
    if m.sweep.isSome then ⟨none, 0, longPath⟩
    else
      let found := scanSteps m.cells s.port (columnOf s.startAz) (rowOf s.startEl)
        (columnDiff (columnOf s.endAz) (columnOf s.startAz)) (rowOf s.endEl - rowOf s.startEl) s.steps
        (min s.steps Config.scanLimit) 1 0
      ⟨found.1, found.2, longPath⟩
  else .empty

/-- The sight map unit takes the oldest scan request it has not yet taken (R87, R91). -/
def Device.takeScan (d : Device) : Device :=
  d.onSmu fun m =>
    let take := fun s : Scan => { s with result := some (m.scan s) }
    { m with scans := changeFirst (fun s => s.result.isNone) take m.scans }

/-! ## Map commands (R94 to R102) -/

/-- The number of cells a command visits when nothing ends it early; MAP_LINE and MAP_RUN may end before it. -/
def MapCommand.length (c : MapCommand) : Nat :=
  match c with
  | .fill _ _ _ w h _ => w * h
  | .copy _ _ _ _ _ _ w h _ _ => w * h
  | .line _ _ _ count _ _ _ => count
  | .run _ _ _ _ _ limit => limit
  | .clear (some _) => Config.mapCells
  | .clear none => Config.allCells

/-- The offset along one side of a rectangle, counted up under order + and down under order − (R97). -/
def orderedOffset (down : Bool) (size i : Nat) : Nat := if down then size - 1 - i else i

/-- The row of the k-th cell of a line, possibly off the map (R99). -/
def lineRow (row : Nat) (rowStep : Int) (k : Nat) : Int := row + k * rowStep

/-- The column of the k-th cell of a line (R99). -/
def lineColumn (column : Nat) (columnStep : Int) (k : Nat) : Nat := (((column : Int) + k * columnStep) % 512).toNat

/-- The column of the k-th cell a MAP_RUN reads (R100). -/
def runColumn (column : Nat) (left : Bool) (k : Nat) : Nat := lineColumn column (if left then -1 else 1) k

/-- The cell that the k-th step of a writing command writes, and the state it writes, read from the cells as they stand (R96 to
R99, R101). MAP_RUN writes nothing. -/
def MapCommand.writes (c : MapCommand) (cells : List (Nat × CellState)) (k : Nat) : Option (Nat × CellState) :=
  match c with
  | .fill p col row w _ v => some (cellAddress p ((col + k % w) % 512) (row + k / w), v)
  | .copy s sc sr t tc tr w h columnsDown rowsDown =>
    let i := orderedOffset columnsDown w (k % w)
    let j := orderedOffset rowsDown h (k / w)
    some (cellAddress t ((tc + i) % 512) (tr + j), readCell cells (cellAddress s ((sc + i) % 512) (sr + j)))
  | .line p col row _ dc dr v => some (cellAddress p (lineColumn col dc k) (lineRow row dr k).toNat, v)
  | .run .. => none
  | .clear (some p) => some (Config.mapCells * p.val + k, .unknown)
  | .clear none => some (k, .unknown)

/-- The cell that the k-th step of a MAP_RUN reads, and the state it looks for (R100). -/
def MapCommand.reads (c : MapCommand) (k : Nat) : Option (Nat × CellState) :=
  match c with
  | .run p col row left v _ => some (cellAddress p (runColumn col left k) row, v)
  | _ => none

/-- A command ends (R95): the result, busy clear, MAP_DONE, the latches of the maps it held, in port order. -/
def Device.endMapCommand (d : Device) (result : MapResult) : Device :=
  match d.smu.running with
  | none => d
  | some c =>
    (d.onSmu fun m =>
      (allPorts.filter c.command.holds).foldl Smu.applyLatch
        { m with running := none, status := { m.status with result := result } }).raise .mapDone

/-- Whether a writing command that has visited k cells has visited all it was to visit: MAP_LINE also ends where its next row
leaves the map (R95, R99). -/
def MapCommand.finished (c : MapCommand) (k : Nat) : Bool :=
  decide (c.length ≤ k) ||
    (match c with
     | .line _ _ row _ _ dr _ => !rowOnMap (lineRow row dr k)
     | _ => false)

/-- A cell step of a writing command (R94, R98): one cell written and counted. -/
def Device.writeStep (d : Device) (c : RunningCommand) (a : Nat) (v : CellState) : Device :=
  let stepped := d.onSmu fun m =>
    { m with
      cells := writeCell m.cells a v
      running := some { c with visited := c.visited + 1 }
      status := { m.status with cellsWritten := m.status.cellsWritten + 1 } }
  if c.command.finished (c.visited + 1) then stepped.endMapCommand .done else stepped

/-- A cell step of MAP_RUN (R100): the cell is read and compared. -/
def Device.runStep (d : Device) (c : RunningCommand) (a : Nat) (v : CellState) : Device :=
  let column := a % 512
  if readCell d.smu.cells a = v then
    let counted := d.onSmu fun m =>
      { m with
        running := some { c with visited := c.visited + 1 }
        status := { m.status with runCount := m.status.runCount + 1 } }
    if c.command.length ≤ c.visited + 1 then
      (counted.onSmu fun m => { m with status := { m.status with runStop := .limit, runStopColumn := column } }).endMapCommand .done
    else counted
  else
    (d.onSmu fun m =>
      { m with status := { m.status with runStop := .different, runStopColumn := column } }).endMapCommand .done

/-- The running command visits one cell (R94). With no command running there is no cell step. -/
def Device.mapStep (d : Device) : Device :=
  match d.smu.running with
  | none => d
  | some c =>
    match c.command.reads c.visited with
    | some (a, v) => d.runStep c a v
    | none =>
      match c.command.writes d.smu.cells c.visited with
      | some (a, v) => d.writeStep c a v
      | none => d

/-- The column an aborted MAP_RUN records: that of the last cell read, or its first column if none was read (R100). -/
def RunningCommand.abortColumn (c : RunningCommand) : Option Nat :=
  match c.command with
  | .run _ col _ left _ _ => some (if c.visited = 0 then col else runColumn col left (c.visited - 1))
  | _ => none

/-- The running command ends ABORTED (R95, R100, R102). -/
def Device.abortMapCommand (d : Device) (c : RunningCommand) : Device :=
  (match c.abortColumn with
   | some column => d.onSmu fun m => { m with status := { m.status with runStopColumn := column } }
   | none => d).endMapCommand .aborted

/-- The kind of a command in the map status (R104). -/
def MapCommand.kind (c : MapCommand) : MapKind :=
  match c with
  | .fill .. => .fill
  | .copy .. => .copy
  | .line .. => .line
  | .run .. => .run
  | .clear _ => .clear

/-- A map command is accepted and begins to run (R94). -/
def Device.acceptMapCommand (d : Device) (c : MapCommand) : Device :=
  d.onSmu fun m => { m with running := some ⟨c, 0⟩, status := ⟨c.kind, .running, 0, 0, .nothing, 0⟩ }

/-- The clearing sweep writes UNKNOWN into its next cell; after the last cell of map 3 it is over (R80). With no sweep running
nothing changes. -/
def Device.sweepStep (d : Device) : Device :=
  match d.smu.sweep with
  | none => d
  | some a => d.onSmu fun m =>
      { m with
        cells := writeCell m.cells a .unknown
        sweep := if a + 1 < Config.allCells then some (a + 1) else none }

/-- The state the peek data word shows (R103). -/
def Smu.peekCell (m : Smu) : CellState :=
  if m.sweep.isSome then .unknown else readCell m.cells (cellAddress m.peek.station m.peek.column.toNat m.peek.row.toNat)

end Sys2Proof.Machine
end

