-- ==== Sys2Proof/Machine/StationOps.lean ====
section
/-! DEFINITION. The station table (05_stations.md): observations on their way to the transform unit, bearings and their lookups, query
results, identities and the roll call, mailboxes, quiet settings, transforms, link up and link down. -/

namespace Sys2Proof.Machine

/-! ## Observations (R5, R109, R130) -/

/-- The observation time of a report whose EOF arrived now (R5). -/
def observationTime (now : Word) (latency : Half) : Word := now - BitVec.ofNat 32 (min latency.toNat Config.latencyMax)

/-- The ingest entry of an OBS or LOCK (R109, section 6.4). -/
def ingestEntry (now : Word) (kind : ReportKind) (seq : Byte) (r : ObsReport) : IngestEntry where
  kind := kind
  point := .ofWords r.x r.y r.z
  az := r.az
  el := r.el
  time := observationTime now r.latency
  latClamped := decide (Config.latencyMax < r.latency.toNat)
  seq := seq

/-- The station's counters changed by f. -/
def Device.onStationCounters (d : Device) (p : Port) (f : StationCounters → StationCounters) : Device :=
  d.onStation p fun s => { s with counters := f s.counters }

/-- An entry joins its port's ingest queue at the back; at a full queue the oldest entry is lost and counted (R130). -/
def Device.joinIngest (d : Device) (p : Port) (e : IngestEntry) : Device :=
  let q := d.xfu.ingest.get p
  if d.xfu.outstanding.get p ≤ q.length then
    (d.onXfu fun x => { x with ingest := x.ingest.set p (q.tail ++ [e]) }).onStationCounters p fun c =>
      { c with superseded := countUp c.superseded }
  else d.onXfu fun x => { x with ingest := x.ingest.set p (q ++ [e]) }

/-- A good OBS or LOCK delivered (R82, R109): queued if the station has a transform, otherwise counted as dropped; seen learning
in both cases. -/
def Device.deliverObservation (d : Device) (p : Port) (kind : ReportKind) (seq : Byte) (r : ObsReport) : Device :=
  (if d.hasTransform p then
     (d.joinIngest p (ingestEntry d.tb kind seq r)).onStationCounters p fun c => { c with obsTaken := countUp c.obsTaken }
   else d.onStationCounters p fun c => { c with noTransformDrops := countUp c.noTransformDrops }).sendLearning
    ⟨.link p, p, r.az, r.el, .seen⟩

/-! ## Bearings (R117, R118, R120) -/

/-- A good BEARING delivered (R118). -/
def Device.deliverBearing (d : Device) (p : Port) (r : BearingReport) : Device :=
  if (d.stations.get p).query.map (·.tag) = some r.tag then
    (d.onStationCounters p fun c => { c with bearings := countUp c.bearings }).onSmu fun m =>
      { m with lookups := m.lookups ++ [⟨p, r.tag, decide (r.reach ≠ 0), r.az, r.el, d.tb, none, false⟩] }
  else d.onStationCounters p fun c => { c with tagMismatch := countUp c.tagMismatch }

/-- The result of a query request reaches the station table (R114, R117). -/
def Device.queryResult (d : Device) (p : Port) (point : Vec3) (gen : Option Byte) : Device :=
  let s := d.stations.get p
  if s.state = .absent ∨ s.quiet = true ∨ gen ≠ some s.transformGen then d
  else
    let tag := s.tagCounter + 1
    (d.onStation p fun s => { s with tagCounter := tag, query := some ⟨tag, point, d.tb⟩ }).onPort p fun l =>
      { l with slot := some (tag, point) }

/-- The oldest lookup of a station returns to the station table, if the sight map unit has taken it (R120): its answer is stored
unless the station has forgotten it. -/
def Device.storeLookup (d : Device) (p : Port) : Device :=
  match d.smu.lookups.find? (fun l => decide (l.station = p)) with
  | some l =>
    match l.result with
    | some cell =>
      let taken := d.onSmu fun m => { m with lookups := m.lookups.eraseP (fun l => decide (l.station = p)) }
      if l.forgotten then taken
      else taken.onStation p fun s => { s with answer := some ⟨l.tag, l.reach, l.az, l.el, cell, l.time⟩ }
    | none => d
  | none => d

/-- The bearing record is emptied, and the lookups then outstanding for the station are marked (R108, R112, R113, R120). -/
def Device.forgetBearing (d : Device) (p : Port) : Device :=
  (d.onStation p fun s => { s with query := none, answer := none }).onSmu fun m =>
    { m with lookups := m.lookups.map fun l => if l.station = p then { l with forgotten := true } else l }

/-! ## Identity and the roll call (R110, R111) -/

/-- A good IDENT delivered (R110). -/
def Device.deliverIdentity (d : Device) (p : Port) (i : Identity) : Device :=
  (d.onStation p fun s => { s with identity := some i }).raise .stationChange

/-- The identity of a station that is present for the roll call (R111). -/
def Station.rollIdentity (s : Station) : Option Identity := if s.state = .absent then none else s.identity

/-- The first present station at or after the cursor (R111). -/
def Device.rollFind (d : Device) : Option (Port × Identity) :=
  (allPorts.filter fun p => decide (d.roll.cursor ≤ p.val)).findSome? fun p =>
    (d.stations.get p).rollIdentity.map fun i => (p, i)

/-- The roll call after a read of ROLL (R111). -/
def Device.rollAdvance (d : Device) : Device :=
  { d with roll :=
      match d.rollFind with
      | some (p, i) => ⟨p.val + 1, some (p, i)⟩
      | none => ⟨4, none⟩ }

/-! ## Mailboxes (R122, R123) -/

/-- A good PASS delivered (R122): it fills an empty mailbox, or sets PASS_OVERRUN. -/
def Device.deliverPass (d : Device) (p : Port) (payload : List Byte) : Device :=
  if (d.stations.get p).mailbox.full then
    d.onPort p fun l => { l with flags := { l.flags with passOverrun := true } }
  else (d.onStation p fun s => { s with mailbox := ⟨payload, true⟩ }).raise .passIn

/-- The host's release of a mailbox (R123). -/
def Device.releaseMailbox (d : Device) (p : Port) : Device := d.onStation p fun s => { s with mailbox := ⟨[], false⟩ }

/-! ## Quiet (R115) -/

/-- A quiet setting takes effect (R115): turned on it empties the query slot; turned off it may let the station join an acquire
search (R32). -/
def Device.setQuiet (d : Device) (p : Port) (value : Bool) : Device :=
  let set := d.onStation p fun s => { s with quiet := value, quietPending := none }
  if value then set.onPort p fun l => { l with slot := none }
  else set.joinAcquire p (d.eligible p)

/-- An outbound frame boundary (R158): a pending quiet setting takes effect. -/
def Device.quietBoundary (d : Device) (p : Port) : Device :=
  match (d.stations.get p).quietPending with
  | some v => d.setQuiet p v
  | none => d

/-! ## Transforms (R112, R113) -/

/-- A transform is loaded from the staging words (R112, R124). -/
def Device.loadTransform (d : Device) (p : Port) : Device :=
  let loaded := ((d.onXfu fun x => { x with records := x.records.set p ⟨true, d.sbi.staging⟩ }).onStation p fun s =>
    { s with
      transformGen := s.transformGen + 1
      state := if s.state = .unconfigured then .standby else s.state }).forgetBearing p
  loaded.joinAcquire p (d.eligible p)

/-- A loaded transform is unloaded (R113, R124, R72). -/
def Device.unloadTransform (d : Device) (p : Port) : Device :=
  let unloaded := ((d.onXfu fun x =>
      { x with records := x.records.set p { x.records.get p with loaded := false } }).onStation p fun s =>
    { s with
      transformGen := s.transformGen + 1
      state := if s.state = .standby then .unconfigured else s.state }).forgetBearing p
  unloaded.leavePending p

/-! ## Link up and link down (R107, R108) -/

/-- Link up: the station's state by its transform, STATION_CHANGE, the report to the track unit (R107, R32). -/
def Device.stationLinkUp (d : Device) (p : Port) : Device :=
  ((d.setStationState p (if d.hasTransform p then .standby else .unconfigured)).raise .stationChange).joinAcquire p false

/-- Link down: ABSENT, the identity and the bearing record forgotten, a pending quiet setting taking effect, STATION_CHANGE, the
report to the track unit with the state held before (R108). -/
def Device.stationLinkDown (d : Device) (p : Port) : Device :=
  let gone := (d.onStation p fun s => { s with state := .absent, identity := none }).forgetBearing p
  ((gone.quietBoundary p).raise .stationChange).reportLinkDown p (d.stationState p)

end Sys2Proof.Machine
end

