-- ==== Sys2Proof/Machine/LinkOps.lean ====
section
/-! DEFINITION. The station link ports (07_station_links.md): the receiving half character by character, the delivery of good frames, the
sending half, and the port entering DOWN and coming up. -/

namespace Sys2Proof.Machine

/-- A port's counters changed by f. -/
def LinkPort.count (l : LinkPort) (f : PortCounters → PortCounters) : LinkPort := { l with counters := f l.counters }

/-- An answer joins those waiting to be sent (R145). -/
def LinkPort.answer (l : LinkPort) (a : LinkAnswer) : LinkPort := { l with answers := l.answers ++ [a] }

/-- A NAK is made and counted (R149, R151, R153, R164). -/
def LinkPort.nak (l : LinkPort) : LinkPort := (l.answer .nak).count fun c => { c with naksSent := countUp c.naksSent }

/-! ## Delivery of a good frame (R152, R155) -/

/-- The last-report views after a good frame (R155). -/
def LastReports.taking (v : LastReports) (f : GoodFrame) : LastReports :=
  match f with
  | .obs _ r => { v with observation := some (r.level, r.flags) }
  | .lock _ r => { v with observation := some (r.level, r.flags) }
  | .beamBreak r => { v with beamBreak := some (r.reason, r.latency) }
  | .fail k r => { v with fail := some (k, r) }
  | _ => v

/-- A BREAK delivered (R30, R82): break learning when its beam was lost, and the report to the track unit. -/
def Device.deliverBreak (d : Device) (p : Port) (r : BreakReport) : Device :=
  (if r.reason = 1 then d.sendLearning ⟨.link p, p, r.az, r.el, .lost⟩ else d).takeBreak p

/-- A good frame delivered to the blocks that own its kind (R152). -/
def Device.deliver (d : Device) (p : Port) (f : GoodFrame) : Device :=
  match f with
  | .obs seq r => d.deliverObservation p .obs seq r
  | .lock seq r => d.deliverObservation p .lock seq r
  | .beamBreak r => d.deliverBreak p r
  | .bearing r => d.deliverBearing p r
  | .fail _ _ => d.takeFail p
  | .ident i => d.deliverIdentity p i
  | .pass payload => d.deliverPass p payload

/-- A good frame taken by its port (R152): ACK, frames_in, the views; the receiving half is between frames. -/
def LinkPort.takeGood (l : LinkPort) (f : GoodFrame) : LinkPort :=
  ({ l with inFrame := none, views := l.views.taking f }.answer .ack).count fun c => { c with framesIn := countUp c.framesIn }

/-- The sticky flag of a cause set (R149, R151, R154). -/
def StickyFlags.set (f : StickyFlags) (cause : CaptureCause) : StickyFlags :=
  match cause with
  | .nothing => f
  | .parity => { f with parity := true }
  | .check => { f with check := true }
  | .format => { f with format := true }

/-- A frame refused in ACCEPTING (R149, R150, R151): NAK, the sticky flag, the error capture; between frames. -/
def LinkPort.refuseFrame (l : LinkPort) (now : Word) (cause : CaptureCause) (position : Nat) (chars : List LineChar) : LinkPort :=
  { l.nak with
    inFrame := none
    inRefused := false
    flags := l.flags.set cause
    capture := ⟨cause, position, capturedKind chars, now⟩ }

/-- A frame that ended in ACCEPTING is judged, and taken or refused (R149, R151, R152). -/
def Device.endFrame (d : Device) (p : Port) (chars : List LineChar) (ending : FrameEnd) : Device :=
  match judgeFrame chars ending with
  | .failed cause position =>
    (d.onPort p fun l => { l.refuseFrame d.tb cause position chars with state := .refusing }).raise (.portFault p)
  | .badFormat position => d.onPort p fun l => l.refuseFrame d.tb .format position chars
  | .good f => (d.onPort p fun l => l.takeGood f).deliver p f

/-! ## The end of a send (R157 to R159) -/

/-- The frame awaiting its answer. -/
def LinkPort.awaitingFrame (l : LinkPort) : Option InFlight :=
  match l.sending with
  | .awaiting f => some f
  | _ => none

/-- The frame in flight. -/
def LinkPort.inFlight (l : LinkPort) : Option InFlight :=
  match l.sending with
  | .idle => none
  | .sending f _ => some f
  | .awaiting f => some f

/-- A send ends with the frame delivered (R158, R159). -/
def Device.sendDelivered (d : Device) (p : Port) : Device :=
  (d.onPort p fun l =>
    { l with sending := .idle, answerDeadline := none,
             counters := { l.counters with framesSent := countUp l.counters.framesSent } }).quietBoundary p

/-- The sticky flag of an undelivered frame (R159, R146): RELEASE_LOST or PASS_LOST. -/
def StickyFlags.losing (s : StickyFlags) (f : OutFrame) : StickyFlags :=
  match f with
  | .release _ => { s with releaseLost := true }
  | .pass _ => { s with passLost := true }
  | _ => s

/-- A send ends with the frame undelivered (R158): the frame boundary first, then the report by kind (R159, notes/assumptions/10.md). -/
def Device.sendUndelivered (d : Device) (p : Port) (f : InFlight) : Device :=
  ((d.onPort p fun l =>
    { l with sending := .idle, answerDeadline := none, flags := l.flags.losing f.frame,
             counters := { l.counters with undelivered := countUp l.counters.undelivered } }).quietBoundary p).orderUndelivered p f

/-- An ACK or NAK character reaches the sending half (R157): it ends the send in AWAITING, and is a stray answer otherwise. -/
def Device.takeAnswer (d : Device) (p : Port) (a : LinkAnswer) : Device :=
  match (d.ports.get p).awaitingFrame with
  | some f => (match a with | .ack => d.sendDelivered p | .nak => d.sendUndelivered p f)
  | none => d.onPort p fun l => l.count fun c => { c with strayAnswers := countUp c.strayAnswers }

/-! ## Link up and link down (R146, R147) -/

/-- The port enters ACCEPTING from DOWN (R147). -/
def Device.linkUp (d : Device) (p : Port) : Device :=
  (d.onPort p fun l =>
    { l with state := .accepting, training := 0, inFrame := none, inRefused := false, idreqPending := true }).stationLinkUp p

/-- The port as it enters DOWN (R146): everything under way abandoned, a lost RELEASE or PASS flagged. -/
def LinkPort.enterDown (l : LinkPort) : LinkPort :=
  let lost := l.control ++ (match l.inFlight with | some f => [f.frame] | none => [])
  { l with
    state := .down
    training := 0
    inFrame := none
    inRefused := false
    answers := []
    idreqPending := false
    control := []
    slot := none
    sending := .idle
    answerDeadline := none
    flags := lost.foldl StickyFlags.losing l.flags
    counters :=
      if l.inFlight.isSome then { l.counters with undelivered := countUp l.counters.undelivered } else l.counters }

/-- The silence deadline expires (R146): an up port enters DOWN; in DOWN the training count returns to 0. The deadline keeps its
value until the next character sets it (notes/assumptions/7.md). -/
def Device.silenceExpires (d : Device) (p : Port) : Device :=
  match (d.ports.get p).state with
  | .down => d.onPort p fun l => { l with training := 0 }
  | _ => (d.onPort p LinkPort.enterDown).stationLinkDown p

/-- The silence deadline's expiry is taken (R146). With the deadline absent or not yet past nothing expires. -/
def Device.silenceTimeout (d : Device) (p : Port) : Device :=
  if expired d.tb (d.ports.get p).silence then d.silenceExpires p else d

/-! ## The receiving half, character by character (R144, R147, R148, R153) -/

/-- What a received character is to the receiving half (R144). -/
inductive CharClass where
  | sof | eof | ack | nak | idle | brk | other
  deriving DecidableEq, Repr

/-- The class of a character: one of the six controls, or another (data, unassigned control, parity error). -/
def charClass (c : LineChar) : CharClass :=
  match c with
  | .control v =>
    if v = sofCode then .sof else if v = eofCode then .eof else if v = ackCode then .ack else if v = nakCode then .nak
    else if v = idleCode then .idle else if v = brkCode then .brk else .other
  | _ => .other

/-- A character in DOWN (R147): a good IDLE counts toward training, and the eighth brings link up; any other resets the count. -/
def Device.trainOn (d : Device) (p : Port) (c : LineChar) : Device :=
  if charClass c = .idle then
    if (d.ports.get p).training + 1 < Config.trainingLength then d.onPort p fun l => { l with training := l.training + 1 }
    else d.linkUp p
  else d.onPort p fun l => { l with training := 0 }

/-- A BRK in REFUSING (R153): ACCEPTING again, between frames, and the return reported to the track unit (R32). -/
def Device.returnToAccepting (d : Device) (p : Port) : Device :=
  (d.onPort p fun l => { l with state := .accepting, inFrame := none, inRefused := false }).joinAcquire p (d.eligible p)

/-- A character in REFUSING (R153). -/
def Device.refuseOn (d : Device) (p : Port) (c : LineChar) : Device :=
  match charClass c with
  | .sof => d.onPort p fun l => { l.nak with inRefused := true }
  | .eof => d.onPort p fun l => { l with inRefused := false }
  | .brk => d.returnToAccepting p
  | .ack => d.takeAnswer p .ack
  | .nak => d.takeAnswer p .nak
  | .idle => d
  | .other => d

/-- A character between frames in ACCEPTING (R148). -/
def Device.betweenOn (d : Device) (p : Port) (c : LineChar) : Device :=
  match charClass c with
  | .sof => d.onPort p fun l => { l with inFrame := some [] }
  | .ack => d.takeAnswer p .ack
  | .nak => d.takeAnswer p .nak
  | .eof => d
  | .idle => d
  | .brk => d
  | .other => d

/-- A frame character collected in a frame (R148): a 29th data character ends the frame for judgement. -/
def Device.collect (d : Device) (p : Port) (chars : List LineChar) (c : LineChar) : Device :=
  let grown := chars ++ [c]
  if 29 ≤ (dataBytes grown).length then d.endFrame p grown .overlong
  else d.onPort p fun l => { l with inFrame := some grown }

/-- A character in a frame in ACCEPTING (R148). A SOF ends the partial frame and is then taken by the REFUSING state that its
judgement leaves (R149: a frame ended by a SOF always fails). -/
def Device.inFrameOn (d : Device) (p : Port) (chars : List LineChar) (c : LineChar) : Device :=
  match charClass c with
  | .eof => d.endFrame p chars .eof
  | .sof => (d.endFrame p chars .sof).refuseOn p c
  | .brk => d.onPort p fun l => { l with inFrame := none }
  | .ack => d.takeAnswer p .ack
  | .nak => d.takeAnswer p .nak
  | .idle => d
  | .other => d.collect p chars c

/-- A character received on a port (R144, R146 to R148, R153): the silence measure restarts, and the port state takes it. -/
def Device.receive (d : Device) (p : Port) (c : LineChar) : Device :=
  let heard := d.onPort p fun l => { l with silence := some (timeAfter d.tb Config.silenceTime) }
  match (d.ports.get p).state, (d.ports.get p).inFrame with
  | .down, _ => heard.trainOn p c
  | .refusing, _ => heard.refuseOn p c
  | .accepting, none => heard.betweenOn p c
  | .accepting, some chars => heard.inFrameOn p chars c

/-- Characters received one after another (notes/assumptions/6.md). -/
def Device.receiveAll (d : Device) (p : Port) (chars : List LineChar) : Device :=
  chars.foldl (fun d c => d.receive p c) d

/-! ## The sending half (R145, R156, R157) -/

/-- The character an answer is sent as (R145, R192). -/
def LinkAnswer.char (a : LinkAnswer) : LineChar :=
  match a with
  | .ack => .control ackCode
  | .nak => .control nakCode

/-- Whether the EOF of the frame in flight is going out: it is on the line, and EOF_SENT has not yet said that it has gone (R157). -/
def LinkPort.eofGoing (l : LinkPort) : Bool :=
  match l.sending with
  | .sending f sent => decide (f.chars.length ≤ sent)
  | _ => false

/-- The port with the next character of the frame in flight on the line, while the frame has one (R145, R157). -/
def LinkPort.sendOfFrame (l : LinkPort) : Option LinkPort :=
  match l.sending with
  | .sending f sent => f.chars[sent]?.map fun c => { l with line := c, sending := .sending f (sent + 1) }
  | _ => none

/-- The sending half puts its next character on the line (R145): the oldest waiting answer, else the next character of the frame in
flight, else IDLE, in DOWN as in the other states. An EOF stays on the line until EOF_SENT (notes/assumptions/2.md). -/
def LinkPort.sendCharacter (l : LinkPort) : LinkPort :=
  if l.eofGoing then l
  else match l.answers with
    | a :: rest => { l with line := a.char, answers := rest }
    | [] => l.sendOfFrame.getD { l with line := .control idleCode }

/-- The next frame of a port and the port with the frame out of its place (R156): IDREQ, the control queue, the query slot. -/
def LinkPort.nextFrame (l : LinkPort) : Option (OutFrame × LinkPort) :=
  if l.idreqPending then some (.idreq, { l with idreqPending := false })
  else match l.control with
    | f :: rest => some (f, { l with control := rest })
    | [] =>
      match l.slot with
      | some (tag, v) => some (.point tag v, { l with slot := none })
      | none => none

/-- The take of the next frame (R156): the sending half IDLE, the port up, a frame waiting. Otherwise no take. An order taken is its
station's current order (R28). -/
def LinkPort.takeFrame (l : LinkPort) : LinkPort :=
  match l.sending, l.state with
  | .idle, .down => l
  | .idle, _ =>
    match l.nextFrame with
    | some (f, rest) => { rest with sending := .sending ⟨f, l.seqCounter, f.isOrder⟩ 0, seqCounter := l.seqCounter + 1 }
    | none => l
  | _, _ => l

/-- The EOF of the frame in flight has gone out (R157): AWAITING, the answer deadline set. An answer made while the EOF itself was going
out waits on; where the EOF was not yet on the line, the rest of the frame goes out in this event, with the answers that waited ahead
of it (R145, notes/assumptions/8.md). With no frame SENDING nothing changes. -/
def LinkPort.eofGone (l : LinkPort) (now : Word) : LinkPort :=
  match l.sending with
  | .sending f _ =>
    { l with
      sending := .awaiting f
      answerDeadline := some (timeAfter now Config.answerTime)
      line := .control eofCode
      answers := if l.eofGoing then l.answers else [] }
  | _ => l

/-- The answer deadline expires (R158): the frame awaiting its answer ends undelivered. -/
def Device.answerExpires (d : Device) (p : Port) : Device :=
  match (d.ports.get p).awaitingFrame with
  | some f => d.sendUndelivered p f
  | none => d

/-- The answer deadline's expiry is taken (R158). With the deadline absent or not yet past nothing expires. -/
def Device.answerTimeout (d : Device) (p : Port) : Device :=
  if expired d.tb (d.ports.get p).answerDeadline then d.answerExpires p else d

end Sys2Proof.Machine
end

