-- ==== Sys2Proof/Machine/TickOps.lean ====
section
/-! DEFINITION. The track unit's own clockwork: the query tick, the output tick, the ends of the handoff, coast and search deadlines, the
hold-off's end, a path scan result, and the tick of the time base. -/

namespace Sys2Proof.Machine

/-! ## The query tick (R37, R63) -/

/-- The query point: the track predicted at now + LOOKAHEAD, each coordinate saturated (R37). -/
def Device.queryPoint (d : Device) : Vec3 := (d.track.predict (timeAfter d.tb d.params.lookahead)).saturate32

/-- An inverse request placed for every station that qualifies, in port order (R37). -/
def Device.placeQueries (d : Device) (point : Vec3) : Device :=
  allPorts.foldl (fun d p => if d.eligible p then d.onXfu fun x => x.placeInverse ⟨p, .query, point⟩ else d) d

/-- A query tick (R37): the requests, the next query deadline, and in COAST the choice of R63. -/
def Device.queryTick (d : Device) : Device :=
  let asked := (d.placeQueries d.queryPoint).onDeadlines fun l =>
    { l with query := some (timeAfter d.tb d.params.queryInterval) }
  if d.track.state = .coast then asked.tryHandoff else asked

/-- The query deadline's expiry is taken (R37). With the deadline absent or not yet past nothing expires. -/
def Device.queryExpires (d : Device) : Device :=
  if expired d.tb d.track.deadlines.query then d.queryTick else d

/-! ## The output tick (R21, R22) -/

/-- Whether PREDICTED records are produced: blind is set, in COAST or HANDOFF (R21). -/
def Track.predicts (t : Track) : Bool := t.blind && (decide (t.state = .coast) || decide (t.state = .handoff))

/-- The output deadline's expiry is taken (R21): one PREDICTED record and the next deadline, measured from now. -/
def Device.outputExpires (d : Device) : Device :=
  if expired d.tb d.track.deadlines.output && d.track.predicts then
    (d.produce d.predictedRecord).onDeadlines fun l => { l with output := some (timeAfter d.tb d.params.outputInterval) }
  else d

/-! ## The handoff, coast and search deadlines (R53, R55, R64, R35, R73) -/

/-- The take fails by TIMEOUT (R53): RELEASE, failed-take learning, late_port, and the consequences of R47. -/
def Device.timeoutTake (d : Device) (c : Port) : Device :=
  (((d.releaseStation c .timeout).learnFailedTake c).onTrack fun t => { t with latePort := some c }).failTake c .timeout

/-- The handoff deadline's expiry is taken (R53). -/
def Device.handoffExpires (d : Device) : Device :=
  if expired d.tb d.track.deadlines.handoff then
    match d.track.state, d.track.candidate with
    | .handoff, some c => d.timeoutTake c
    | _, _ => d
  else d

/-- The coast deadline's expiry is taken: in COAST the track enters SEARCH (R64); in HANDOFF coast_expired is set (R55). -/
def Device.coastExpires (d : Device) : Device :=
  if expired d.tb d.track.deadlines.coast then
    let ended := d.onDeadlines fun l => { l with coast := none }
    match d.track.state with
    | .coast => ended.enterSearch
    | .handoff => ended.onTrack fun t => { t with coastExpired := true }
    | _ => d
  else d

/-- The search deadline's expiry is taken in ACQUIRE or SEARCH (R35, R73): the searchers are released and the track is LOST. -/
def Device.searchExpires (d : Device) : Device :=
  if expired d.tb d.track.deadlines.search then
    match d.track.state with
    | .acquire | .search => (d.releaseSearching .searchEnd none).enterLost
    | _ => d
  else d

/-- A station's hold-off expires and becomes absent (R57). -/
def Device.holdOffExpires (d : Device) (p : Port) : Device :=
  if expired d.tb (d.stations.get p).holdOff then d.onStation p fun s => { s with holdOff := none } else d

/-! ## A path scan result (R20, R40) -/

/-- Whether a written result predicts a break (R20). -/
def PathResult.predictsBreak (r : PathResult) (suspectLimit : Nat) : Bool := r.obstacle.isSome || decide (suspectLimit ≤ r.suspect)

/-- A path scan result reaches the track unit (R20): written while TRACKING or HANDOFF, sighted, from the owner's map; in TRACKING it is
acted on (R40). -/
def Device.pathResultArrives (d : Device) (p : Port) (r : PathResult) : Device :=
  if (d.track.state = .tracking ∨ d.track.state = .handoff) ∧ d.track.blind = false ∧ d.track.owner = some p then
    let kept := d.onTrack fun t => { t with pathResult := r }
    if d.track.state = .tracking then
      (if r.predictsBreak d.params.suspectLimit then kept.tryHandoff
       else kept.onTrack fun t => { t with noCandidate := false })
    else kept
  else d

/-- The oldest path scan is handed back, once the sight map unit has taken it (R20, R91). With none taken nothing arrives. -/
def Device.handBackScan (d : Device) : Device :=
  match d.smu.scans with
  | [] => d
  | s :: rest =>
    match s.result with
    | some r => (d.onSmu fun m => { m with scans := rest }).pathResultArrives s.port r
    | none => d

/-! ## The time base (R3) -/

/-- One microsecond passes (R3): TB steps, and each port puts its next character on the line (R145, notes/assumptions/2.md). -/
def Device.tick (d : Device) : Device := { d with tb := d.tb + 1, ports := d.ports.map LinkPort.sendCharacter }

end Sys2Proof.Machine
end

