-- ==== Sys2Proof/Machine/Deadlines.lean ====
section
/-! DEFINITION. The expiries of the deadlines. -/

namespace Sys2Proof.Machine

/-- QUERY_DEADLINE_EXPIRY (R37, R63). -/
def execQueryDeadlineExpiry (s : State) : Host.Outcome State Fault Refusal :=
  s.answer s.device.queryExpires

/-- OUTPUT_DEADLINE_EXPIRY (R21, R22). -/
def execOutputDeadlineExpiry (s : State) : Host.Outcome State Fault Refusal :=
  s.answer s.device.outputExpires

/-- HANDOFF_DEADLINE_EXPIRY (R53). -/
def execHandoffDeadlineExpiry (s : State) : Host.Outcome State Fault Refusal :=
  s.answer s.device.handoffExpires

/-- COAST_DEADLINE_EXPIRY (R55, R64). -/
def execCoastDeadlineExpiry (s : State) : Host.Outcome State Fault Refusal :=
  s.answer s.device.coastExpires

/-- SEARCH_DEADLINE_EXPIRY (R35, R73). -/
def execSearchDeadlineExpiry (s : State) : Host.Outcome State Fault Refusal :=
  s.answer s.device.searchExpires

/-- HOLD_OFF_EXPIRY (R57). -/
def execHoldOffExpiry (p : Port) (s : State) : Host.Outcome State Fault Refusal :=
  s.answer (s.device.holdOffExpires p)

/-- SILENCE_DEADLINE_EXPIRY (R146). -/
def execSilenceDeadlineExpiry (p : Port) (s : State) : Host.Outcome State Fault Refusal :=
  s.answer (s.device.silenceTimeout p)

/-- ANSWER_DEADLINE_EXPIRY (R158). -/
def execAnswerDeadlineExpiry (p : Port) (s : State) : Host.Outcome State Fault Refusal :=
  s.answer (s.device.answerTimeout p)

end Sys2Proof.Machine
end

