-- ==== Sys2Proof/Machine/TransformOps.lean ====
section
/-! DEFINITION. The transform unit (06_the_transform_unit.md): the forward and inverse transforms, the arbiter, the grant and the
completion of an operation. -/

namespace Sys2Proof.Machine

/-! ## The transforms (R126 to R129) -/

/-- One axis of the forward transform before saturation: the exact sum over 2^30, rounded once (R126). -/
def forwardAxis (m1 m2 m3 t : Word) (p : Vec3) : Int :=
  roundDiv (m1.toInt * p.x + m2.toInt * p.y + m3.toInt * p.z + t.toInt * 1073741824) 1073741824

/-- The forward transform before saturation (R126). -/
def TransformValues.forward (v : TransformValues) (p : Vec3) : Vec3 :=
  ⟨forwardAxis v.m11 v.m12 v.m13 v.tx p, forwardAxis v.m21 v.m22 v.m23 v.ty p, forwardAxis v.m31 v.m32 v.m33 v.tz p⟩

/-- One axis of the inverse transform before saturation, from a column of the matrix (R128). -/
def inverseAxis (m1 m2 m3 : Word) (q : Vec3) : Int :=
  roundDiv (m1.toInt * q.x + m2.toInt * q.y + m3.toInt * q.z) 1073741824

/-- The inverse transform before saturation: the transpose applied to p − t (R128). -/
def TransformValues.inverse (v : TransformValues) (p : Vec3) : Vec3 :=
  let q := p.minus (.ofWords v.tx v.ty v.tz)
  ⟨inverseAxis v.m11 v.m21 v.m31 q, inverseAxis v.m12 v.m22 v.m32 q, inverseAxis v.m13 v.m23 v.m33 q⟩

/-- The transformed result of an ingest entry (R127). -/
def forwardResult (v : TransformValues) (p : Port) (e : IngestEntry) : TrackResult where
  source := p
  kind := e.kind
  measured := (v.forward e.point).saturate32
  sat := (v.forward e.point).overflows32
  az := e.az
  el := e.el
  time := e.time
  latClamped := e.latClamped
  seq := e.seq

/-! ## The arbiter (R135 to R137) -/

/-- The requester after one in the ring (R135). -/
def Requester.after : Requester → Requester
  | .port p => if p = 3 then .queryQueue else .port (p + 1)
  | .queryQueue => .port 0

/-- The ring of requesters, examined from one of them (R135). -/
def Requester.ring (r : Requester) : List Requester :=
  [r, r.after, r.after.after, r.after.after.after, r.after.after.after.after]

/-- Whether a requester holds a waiting entry (R135). -/
def Xfu.waiting (x : Xfu) : Requester → Bool
  | .port p => !(x.ingest.get p).isEmpty
  | .queryQueue => !x.queryQueue.isEmpty

/-- The requester a grant would serve: the first in the ring from the rotation pointer with an entry waiting (R135). -/
def Xfu.nextRequester (x : Xfu) : Option Requester := x.pointer.ring.find? x.waiting

/-- The rotation pointer and the pair flag after a grant from a requester whose entry has left its queue (R135, R136). -/
def Xfu.rotate (x : Xfu) (r : Requester) : Xfu :=
  match r with
  | .port p =>
    if x.pairMode = true ∧ x.pairFlag = false ∧ (x.ingest.get p).isEmpty = false then
      { x with pairFlag := true, pointer := .port p }
    else { x with pairFlag := false, pointer := r.after }
  | .queryQueue => { x with pairFlag := false, pointer := r.after }

/-- A write of PAIR mode (R137): any value but 0 is on; turning it off ends a pair that has begun. -/
def Xfu.setPairMode (x : Xfu) (on : Bool) : Xfu :=
  if x.pairMode = true ∧ on = false ∧ x.pairFlag = true then
    { x with pairMode := false, pairFlag := false, pointer := x.pointer.after }
  else { x with pairMode := on }

/-- The granted entry starts its operation on a captured copy of its record, or is discarded and counted where the record is
unloaded (R125, R138). -/
def Xfu.startJob (x : Xfu) (station : Port) (j : Job) : Xfu :=
  if (x.records.get station).loaded then { x with operation := some ⟨j, (x.records.get station).values⟩ }
  else { x with grantDrops := countUp x.grantDrops }

/-- A grant (R135, R136, R138): the unit is free and some requester holds an entry. Otherwise no grant is taken. -/
def Device.grant (d : Device) : Device :=
  match d.xfu.operation, d.xfu.nextRequester with
  | none, some (.port p) =>
    match d.xfu.ingest.get p with
    | e :: rest =>
      d.onXfu fun x => ({ x with ingest := x.ingest.set p rest }.rotate (.port p)).startJob p (.forward p e)
    | [] => d
  | none, some .queryQueue =>
    match d.xfu.queryQueue with
    | r :: rest =>
      let gen := match r.kind with
        | .query => some (d.stations.get r.station).transformGen
        | .search => none
      d.onXfu fun x => ({ x with queryQueue := rest }.rotate .queryQueue).startJob r.station (.inverse r gen)
    | [] => d
  | _, _ => d

/-! ## Completion (R139, R140) -/

/-- The forward saturations are counted once per result (R127, R143). -/
def Xfu.countForward (x : Xfu) (sat : Bool) : Xfu :=
  if sat then { x with forwardSat := countUp x.forwardSat } else x

/-- The inverse saturations are counted once per result (R129, R143). -/
def Xfu.countInverse (x : Xfu) (sat : Bool) : Xfu :=
  if sat then { x with inverseSat := countUp x.inverseSat } else x

/-- The operation in flight ends: the unit is free, and the result goes to its consumer (R139, R140). With none in flight
nothing ends. -/
def Device.complete (d : Device) : Device :=
  match d.xfu.operation with
  | none => d
  | some op =>
    let free := d.onXfu fun x => { x with operation := none }
    match op.job with
    | .forward p e =>
      let r := forwardResult op.values p e
      (free.onXfu fun x => x.countForward r.sat).routeResult r
    | .inverse q gen =>
      let raw := op.values.inverse q.point
      let counted := free.onXfu fun x => x.countInverse raw.overflows32
      match q.kind with
      | .query => counted.queryResult q.station raw.saturate32 gen
      | .search => counted.searchResult q.station raw.saturate32

end Sys2Proof.Machine
end

