-- ==== Sys2Proof/Machine/CommandOps.lean ====
section
/-! DEFINITION. The command register (section 9.3): what each of the eighteen codes does with the parameter words as they stand, and the
command status that every write leaves. -/

namespace Sys2Proof.Machine

/-- What a block makes of a command: it takes it, refuses it with a reason and changes nothing, or holds it (ROE_START, R171). -/
inductive CommandResult where
  | taken (d : Device)
  | refused (reason : RefusalReason)
  | held (d : Device)
  deriving DecidableEq, Repr

/-- A write of the command register (R188): refused with BUSY while a command is pending, otherwise judged by its block; the three
status fields are replaced. -/
def Device.command (d : Device) (code : Byte) (judge : Device → CommandResult) : Device :=
  if d.engine.startHeld then d.setStatus code .refused .busy
  else match judge d with
    | .taken d' => d'.setStatus code .done .nothing
    | .refused reason => d.setStatus code .refused reason
    | .held d' => d'.setStatus code .pending .nothing

/-! ## TRK: ARM, CANCEL, HANDOFF_TO -/

/-- The port mask of ARM: P0 bits 3:0 (R194). DESIGN CHOICE: bit n stands for port n (notes/assumptions/31.md). -/
def maskOfWord (w : Word) : PerPort Bool := ⟨w.getLsbD 0, w.getLsbD 1, w.getLsbD 2, w.getLsbD 3⟩

/-- ARM taken with a mask (R31). DESIGN CHOICE: its EVENT steps record_seq by R25, though R1 says that ARM leaves it at the value it holds
(notes/assumptions/30.md). -/
def Device.armWith (d : Device) (mask : PerPort Bool) : Device :=
  let named := d.onTrack fun t =>
    { t with
      acquireMask := mask
      latePort := none
      coastExpired := false
      noCandidate := false
      deadlines := { t.deadlines with search := some (timeAfter d.tb d.params.searchTime) } }
  let sent := allPorts.foldl (fun e p => if mask.get p && d.eligible p then e.sendSearch p none else e) named
  sent.changeState .acquire false

/-- ARM (R31). -/
def Device.judgeArm (d : Device) : CommandResult :=
  let mask := maskOfWord d.sbi.parameters.p0
  if d.track.state ≠ .idle ∧ d.track.state ≠ .lost then .refused .state
  else if allPorts.any fun p => mask.get p && d.eligible p then .taken (d.armWith mask)
  else .refused .state

/-- A station named by an ownership field released CANCELLED (R56). -/
def Device.cancelRole (d : Device) (p : Option Port) : Device :=
  match p with
  | some q => d.releaseStation q .cancelled
  | none => d

/-- CANCEL in a state other than IDLE (R56, R69). DESIGN CHOICE: its EVENT steps record_seq by R25, though R1 and R56 say that CANCEL leaves
it at the value it holds (notes/assumptions/30.md). -/
def Device.cancelTrack (d : Device) : Device :=
  let released := ((d.cancelRole d.track.owner).cancelRole d.track.candidate).releaseSearching .cancelled none
  let cleared := released.onTrack fun t =>
    { t with
      owner := none
      candidate := none
      latePort := none
      searchPoint := none
      searchPending := .same false
      blind := false
      coastExpired := false
      noCandidate := false
      deadlines := .absent }
  cleared.changeState .idle false

/-- CANCEL (R56): taken in every state, with no effect in IDLE. -/
def Device.judgeCancel (d : Device) : CommandResult :=
  if d.track.state = .idle then .taken d else .taken d.cancelTrack

/-- HANDOFF_TO (R43). DESIGN CHOICE: a port outside 0..3 is refused with RANGE in every track state (notes/assumptions/28.md). -/
def Device.judgeHandoffTo (d : Device) : CommandResult :=
  match portOfWord d.sbi.parameters.p0 with
  | none => .refused .range
  | some p =>
    if d.track.state ≠ .tracking then .refused .state
    else match d.grade p with
      | .good | .fair | .poor | .barred => .taken (d.startHandoff p)
      | .stale | .held | .ineligible => .refused .state

/-! ## STB and XFU -/

/-- Whether transform changes are refused for a station: it holds a role, or the owner field names it (R112). -/
def Device.transformLocked (d : Device) (p : Port) : Bool :=
  decide (d.stationState p = .owner) || decide (d.stationState p = .taking) || decide (d.stationState p = .searching) ||
    decide (d.track.owner = some p)

/-- LOAD_TRANSFORM (R112). -/
def Device.judgeLoad (d : Device) : CommandResult :=
  match portOfWord d.sbi.parameters.p0 with
  | none => .refused .range
  | some p => if d.transformLocked p then .refused .state else .taken (d.loadTransform p)

/-- UNLOAD_TRANSFORM (R113). -/
def Device.judgeUnload (d : Device) : CommandResult :=
  match portOfWord d.sbi.parameters.p0 with
  | none => .refused .range
  | some p =>
    if d.transformLocked p then .refused .state
    else if d.hasTransform p then .taken (d.unloadTransform p) else .taken d

/-- SET_QUIET taken (R115): at once with no frame in flight, otherwise pending until the frame boundary; the setting in effect
written again with none pending changes nothing. -/
def Device.requestQuiet (d : Device) (p : Port) (value : Bool) : Device :=
  let s := d.stations.get p
  if s.quiet = value ∧ s.quietPending = none then d
  else if (d.ports.get p).inFlight.isSome then d.onStation p fun s => { s with quietPending := some value }
  else d.setQuiet p value

/-- SET_QUIET (R115). DESIGN CHOICE: the station is judged before the value (notes/assumptions/28.md). -/
def Device.judgeSetQuiet (d : Device) : CommandResult :=
  match portOfWord d.sbi.parameters.p0, settingOfWord d.sbi.parameters.p1 with
  | none, _ => .refused .range
  | some _, none => .refused .value
  | some p, some v => .taken (d.requestQuiet p v)

/-- SET_LEARNING (R116). DESIGN CHOICE: the station is judged before the value (notes/assumptions/28.md). -/
def Device.judgeSetLearning (d : Device) : CommandResult :=
  match portOfWord d.sbi.parameters.p0, settingOfWord d.sbi.parameters.p1 with
  | none, _ => .refused .range
  | some _, none => .refused .value
  | some p, some v => .taken (d.onStation p fun s => { s with learning := v })

/-- A counter counts several events, saturating (R131). -/
def countTimes (c : Half) (n : Nat) : Half := n.repeat countUp c

/-- SET_OUTSTANDING taken (R131): the oldest entries beyond the limit are lost and counted. -/
def Device.setOutstanding (d : Device) (p : Port) (limit : Nat) : Device :=
  let q := d.xfu.ingest.get p
  let lost := q.length - limit
  (d.onXfu fun x =>
    { x with outstanding := x.outstanding.set p limit, ingest := x.ingest.set p (q.drop lost) }).onStationCounters p fun c =>
      { c with superseded := countTimes c.superseded lost }

/-- SET_OUTSTANDING (R131). -/
def Device.judgeSetOutstanding (d : Device) : CommandResult :=
  let limit := d.sbi.parameters.p1.toNat
  match portOfWord d.sbi.parameters.p0 with
  | none => .refused .range
  | some p => if 1 ≤ limit ∧ limit ≤ 3 then .taken (d.setOutstanding p limit) else .refused .range

/-! ## SMU: the map commands, checked BUSY, RANGE, VALUE in that order (R93) -/

/-- Whether a map command or the clearing sweep is running. -/
def Smu.busy (m : Smu) : Bool := m.running.isSome || m.sweep.isSome

/-- The checks of R93 around a command: BUSY, then the parameters in range, then the codes. `range` gives the command once its codes
are known, or none where a parameter is out of range. -/
def Device.judgeMap (d : Device) (range : Bool) (command : Option MapCommand) : CommandResult :=
  if d.smu.busy then .refused .busy
  else if range = false then .refused .range
  else match command with
    | some c => .taken (d.acceptMapCommand c)
    | none => .refused .value

/-- The order or direction a code names: 0 is +, 1 is − (R93). -/
def orderOfNat (n : Nat) : Option Bool := if n = 0 then some false else if n = 1 then some true else none

/-- Whether a cell coordinate is on the map, a width in 1..512 and a height in 1..128 with the rectangle's rows on the map. -/
def rectangleInRange (c r w h : Nat) : Bool :=
  decide (c < 512) && decide (r < 128) && decide (1 ≤ w) && decide (w ≤ 512) && decide (1 ≤ h) && decide (h ≤ 128) &&
    decide (r + h ≤ 128)

/-- MAP_FILL (R93, R96). -/
def Device.judgeMapFill (d : Device) : CommandResult :=
  let q := d.sbi.parameters
  let range := (portOfWord q.p0).isSome && rectangleInRange q.p1.toNat q.p2.toNat q.p3.toNat q.p4.toNat
  d.judgeMap range <|
    (portOfWord q.p0).bind fun p => (cellOfWord q.p5).map fun v =>
      .fill p q.p1.toNat q.p2.toNat q.p3.toNat q.p4.toNat v

/-- MAP_COPY (R93, R97). -/
def Device.judgeMapCopy (d : Device) : CommandResult :=
  let q := d.sbi.parameters
  let w := lowHalf q.p6
  let h := highHalf q.p6
  let range := (portOfWord q.p0).isSome && (portOfWord q.p3).isSome && rectangleInRange q.p1.toNat q.p2.toNat w h &&
    rectangleInRange q.p4.toNat q.p5.toNat w h
  d.judgeMap range <|
    (portOfWord q.p0).bind fun s => (portOfWord q.p3).bind fun t =>
      (orderOfNat (lowHalf q.p7)).bind fun columnsDown => (orderOfNat (highHalf q.p7)).map fun rowsDown =>
        .copy s q.p1.toNat q.p2.toNat t q.p4.toNat q.p5.toNat w h columnsDown rowsDown

/-- MAP_LINE (R93, R99): the steps are signed words. -/
def Device.judgeMapLine (d : Device) : CommandResult :=
  let q := d.sbi.parameters
  let dc := q.p4.toInt
  let dr := q.p5.toInt
  let range := (portOfWord q.p0).isSome && decide (q.p1.toNat < 512) && decide (q.p2.toNat < 128) &&
    decide (1 ≤ q.p3.toNat) && decide (q.p3.toNat ≤ 512) && decide (-8 ≤ dc) && decide (dc ≤ 8) && decide (-8 ≤ dr) &&
    decide (dr ≤ 8) && !(decide (dc = 0) && decide (dr = 0))
  d.judgeMap range <|
    (portOfWord q.p0).bind fun p => (cellOfWord q.p6).map fun v =>
      .line p q.p1.toNat q.p2.toNat q.p3.toNat dc dr v

/-- MAP_RUN (R93, R100). -/
def Device.judgeMapRun (d : Device) : CommandResult :=
  let q := d.sbi.parameters
  let range := (portOfWord q.p0).isSome && decide (q.p1.toNat < 512) && decide (q.p2.toNat < 128) &&
    decide (1 ≤ q.p5.toNat) && decide (q.p5.toNat ≤ 512)
  d.judgeMap range <|
    (portOfWord q.p0).bind fun p => (orderOfNat q.p3.toNat).bind fun left => (cellOfWord q.p4).map fun v =>
      .run p q.p1.toNat q.p2.toNat left v q.p5.toNat

/-- MAP_CLEAR (R93, R101): 4 names all four maps. -/
def Device.judgeMapClear (d : Device) : CommandResult :=
  let n := d.sbi.parameters.p0
  d.judgeMap (decide (n.toNat ≤ 4)) (some (.clear (portOfWord n)))

/-- MAP_ABORT (R102): refused with STATE when no map command runs. -/
def Device.judgeMapAbort (d : Device) : CommandResult :=
  match d.smu.running with
  | some c => .taken (d.abortMapCommand c)
  | none => .refused .state

/-! ## SLP: PASS_SEND -/

/-- The payload bytes of PASS_SEND: the first `length` bytes of P2 to P7, four to a word (R161, R194). -/
def passPayload (q : ParameterWords) (length : Nat) : List Byte :=
  (wordBytes q.p2 ++ wordBytes q.p3 ++ wordBytes q.p4 ++ wordBytes q.p5 ++ wordBytes q.p6 ++ wordBytes q.p7).take length

/-- The host's entries of a control queue (R160). -/
def LinkPort.hostEntries (l : LinkPort) : Nat := (l.control.filter OutFrame.isPass).length

/-- PASS_SEND (R161). -/
def Device.judgePassSend (d : Device) : CommandResult :=
  let length := d.sbi.parameters.p1.toNat
  match portOfWord d.sbi.parameters.p0 with
  | none => .refused .range
  | some p =>
    if 24 < length then .refused .range
    else if (d.ports.get p).state = .down then .refused .state
    else if Config.hostShare ≤ (d.ports.get p).hostEntries then .refused .full
    else .taken (d.onPort p fun l => l.place (.pass (passPayload d.sbi.parameters length)))

/-! ## ROE: ROE_START, ROE_FLUSH, ROE_RESUME -/

/-- ROE_START (R171, R174): refused with BUSY while an action is held, with STATE in DISABLED, held while a write is in flight. -/
def Device.judgeStart (d : Device) : CommandResult :=
  let address := d.sbi.parameters.p0
  if d.engine.held.isSome then .refused .busy
  else if d.engine.state = .disabled then .refused .state
  else if d.engine.writeInFlight then .held (d.onEngine fun e => { e with held := some (.start address) })
  else .taken (d.takeStart address)

/-- ROE_FLUSH (R178). -/
def Device.judgeFlush (d : Device) : CommandResult :=
  if d.engine.state = .disabled ∨ d.engine.state = .halted then .refused .state else .taken d.flush

/-- A RESUME is taken: the re-read of the last descriptor's next field begins, or its address fails (R179, R180). -/
def Device.takeResume (d : Device) : Device :=
  let address := d.engine.lastDescriptor + 8
  match d.engine.translate address with
  | some bus => d.onEngine fun e => { e with access := some (.reread address bus e.bigEndian) }
  | none => d.engineError .address d.engine.lastDescriptor

/-- ROE_RESUME (R171, R179). -/
def Device.judgeResume (d : Device) : CommandResult :=
  if d.engine.held.isSome then .refused .busy
  else if d.engine.state = .starved then
    (if d.engine.access.isSome then .refused .busy else .taken d.takeResume)
  else .refused .state

/-! ## The dispatch table (R189) -/

/-- A write of the command register with a code (R188, R189). -/
def Device.writeCommand (d : Device) (code : Byte) : Device :=
  match code.toNat with
  | 0x01 => d.command code Device.judgeArm
  | 0x02 => d.command code Device.judgeCancel
  | 0x03 => d.command code Device.judgeHandoffTo
  | 0x10 => d.command code Device.judgeLoad
  | 0x11 => d.command code Device.judgeUnload
  | 0x12 => d.command code Device.judgeSetQuiet
  | 0x13 => d.command code Device.judgeSetLearning
  | 0x14 => d.command code Device.judgeSetOutstanding
  | 0x20 => d.command code Device.judgeMapFill
  | 0x21 => d.command code Device.judgeMapCopy
  | 0x22 => d.command code Device.judgeMapLine
  | 0x23 => d.command code Device.judgeMapRun
  | 0x24 => d.command code Device.judgeMapClear
  | 0x25 => d.command code Device.judgeMapAbort
  | 0x30 => d.command code Device.judgePassSend
  | 0x40 => d.command code Device.judgeStart
  | 0x41 => d.command code Device.judgeFlush
  | 0x42 => d.command code Device.judgeResume
  | _ => d.command code fun _ => .refused .value

/-- The eighteen command codes (R189). -/
def commandCodes : List Nat :=
  [0x01, 0x02, 0x03, 0x10, 0x11, 0x12, 0x13, 0x14, 0x20, 0x21, 0x22, 0x23, 0x24, 0x25, 0x30, 0x40, 0x41, 0x42]

end Sys2Proof.Machine
end

