-- ==== Sys2Proof/Machine/EngineCommands.lean ====
section
/-! DEFINITION. The commands and bus events of the record output engine. -/

namespace Sys2Proof.Machine

/-- ROE_START (R171, R174). Its parameters stand in the parameter words; the command status is replaced (R188). -/
def execRoeStart (s : State) : Host.Outcome State Fault Refusal :=
  s.answer (s.device.command 0x40 Device.judgeStart)

/-- ROE_FLUSH (R178). Its parameters stand in the parameter words; the command status is replaced (R188). -/
def execRoeFlush (s : State) : Host.Outcome State Fault Refusal :=
  s.answer (s.device.command 0x41 Device.judgeFlush)

/-- ROE_RESUME (R179). Its parameters stand in the parameter words; the command status is replaced (R188). -/
def execRoeResume (s : State) : Host.Outcome State Fault Refusal :=
  s.answer (s.device.command 0x42 Device.judgeResume)

/-- ENABLE (R169, R171): the settings the write carries are stored, then the action is taken or held. -/
def execEnable (bigEndian flushOnLost : Bool) (s : State) : Host.Outcome State Fault Refusal :=
  s.answer (s.device.storeSettings bigEndian flushOnLost).enableAction

/-- DISABLE (R170, R171): the settings the write carries are stored, then the action is taken or held. -/
def execDisable (bigEndian flushOnLost : Bool) (s : State) : Host.Outcome State Fault Refusal :=
  s.answer (s.device.storeSettings bigEndian flushOnLost).disableAction

/-- ENGINE_RESET (R169, R171): the settings the write carries are stored, then the action is taken or held. -/
def execEngineReset (bigEndian flushOnLost : Bool) (s : State) : Host.Outcome State Fault Refusal :=
  s.answer (s.device.storeSettings bigEndian flushOnLost).engineResetAction

/-- ENGINE_CONTROL_SETTINGS (R169, R173): a write of the control word with no action bit stores the two settings. -/
def execEngineControlSettings (bigEndian flushOnLost : Bool) (s : State) : Host.Outcome State Fault Refusal :=
  s.answer (s.device.storeSettings bigEndian flushOnLost)

/-- RECORD_WRITE_BEGIN (R176). -/
def execRecordWriteBegin (s : State) : Host.Outcome State Fault Refusal :=
  s.answer s.device.beginRecordWrite

/-- RECORD_WRITE_END (R176, R180): the bus ends the record write, without error or with one. -/
def execRecordWriteEnd (ok : Bool) (s : State) : Host.Outcome State Fault Refusal :=
  s.answer (s.device.endRecordWrite ok)

/-- WRITEBACK_END (R177, R180): the bus ends the completion writeback, without error or with one. -/
def execWritebackEnd (ok : Bool) (s : State) : Host.Outcome State Fault Refusal :=
  s.answer (s.device.endWriteback ok)

/-- DESCRIPTOR_READ_END (R175): the bus answers the descriptor read, or fails it. -/
def execDescriptorReadEnd (answer : Option (BitVec 128)) (s : State) : Host.Outcome State Fault Refusal :=
  s.answer (s.device.endDescriptorRead answer)

/-- REREAD_END (R179): the bus answers the re-read of the next field, or fails it. -/
def execRereadEnd (answer : Option Word) (s : State) : Host.Outcome State Fault Refusal :=
  s.answer (s.device.endReread answer)

end Sys2Proof.Machine
end

