-- ==== Sys2Proof/Machine/LinkEvents.lean ====
section
/-! DEFINITION. The characters and frames that arrive on a station line, and the events of the sending half. -/

namespace Sys2Proof.Machine

/-- IDLE_CHARACTER (R147). -/
def execIdleCharacter (p : Port) (s : State) : Host.Outcome State Fault Refusal :=
  s.answer (s.device.receive p (.control idleCode))

/-- SOF (R148, R153). -/
def execSof (p : Port) (s : State) : Host.Outcome State Fault Refusal :=
  s.answer (s.device.receive p (.control sofCode))

/-- BRK (R152, R153). -/
def execBrk (p : Port) (s : State) : Host.Outcome State Fault Refusal :=
  s.answer (s.device.receive p (.control brkCode))

/-- ACK (R157, R158). -/
def execAck (p : Port) (s : State) : Host.Outcome State Fault Refusal :=
  s.answer (s.device.receive p (.control ackCode))

/-- NAK (R157, R158). -/
def execNak (p : Port) (s : State) : Host.Outcome State Fault Refusal :=
  s.answer (s.device.receive p (.control nakCode))

/-- EOF (R148, R153). -/
def execEof (p : Port) (s : State) : Host.Outcome State Fault Refusal :=
  s.answer (s.device.receive p (.control eofCode))

/-- DATA_CHARACTER (R146 to R148). -/
def execDataCharacter (p : Port) (c : LineChar) (s : State) : Host.Outcome State Fault Refusal :=
  s.answer (s.device.receive p c)

/-- FRAME_CHECK_FAIL (R149): a SOF and then the characters given, up to the one that ends the frame. -/
def execFrameCheckFail (p : Port) (chars : List LineChar) (s : State) : Host.Outcome State Fault Refusal :=
  s.answer (s.device.receiveAll p (.control sofCode :: chars))

/-- FORMAT_FAIL (R151): a frame that passes the checks of R149 and has a bad kind, length or field value. -/
def execFormatFail (p : Port) (kind seq : Byte) (payload : List Byte) (s : State) : Host.Outcome State Fault Refusal :=
  s.answer (s.device.receiveAll p (frameChars kind seq payload))

/-- OBS (R109, R152): the characters of a good OBS frame. -/
def execObs (p : Port) (seq : Byte) (report : ObsReport) (s : State) : Host.Outcome State Fault Refusal :=
  s.answer (s.device.receiveAll p (frameChars kindObs seq (obsPayload report)))

/-- LOCK (R109, R152): the characters of a good LOCK frame. -/
def execLock (p : Port) (seq : Byte) (report : ObsReport) (s : State) : Host.Outcome State Fault Refusal :=
  s.answer (s.device.receiveAll p (frameChars kindLock seq (obsPayload report)))

/-- BREAK (R30, R152): the characters of a good BREAK frame. -/
def execBreakFrame (p : Port) (seq : Byte) (report : BreakReport) (s : State) : Host.Outcome State Fault Refusal :=
  s.answer (s.device.receiveAll p (frameChars kindBreak seq (breakPayload report)))

/-- FAIL (R30, R152): the characters of a good FAIL frame. -/
def execFailFrame (p : Port) (seq orderKind reason : Byte) (s : State) : Host.Outcome State Fault Refusal :=
  s.answer (s.device.receiveAll p (frameChars kindFail seq [orderKind, reason]))

/-- BEARING (R118, R152): the characters of a good BEARING frame. -/
def execBearing (p : Port) (seq : Byte) (report : BearingReport) (s : State) : Host.Outcome State Fault Refusal :=
  s.answer (s.device.receiveAll p (frameChars kindBearing seq (bearingPayload report)))

/-- IDENT (R110, R152): the characters of a good IDENT frame. -/
def execIdent (p : Port) (seq : Byte) (identity : Identity) (s : State) : Host.Outcome State Fault Refusal :=
  s.answer (s.device.receiveAll p (frameChars kindIdent seq (identityPayload identity)))

/-- PASS (R122, R152): the characters of a good PASS frame. -/
def execPass (p : Port) (seq : Byte) (payload : List Byte) (s : State) : Host.Outcome State Fault Refusal :=
  s.answer (s.device.receiveAll p (frameChars kindPass seq payload))

/-- OUTBOUND_FRAME_TAKE (R156). -/
def execOutboundFrameTake (p : Port) (s : State) : Host.Outcome State Fault Refusal :=
  s.answer (s.device.onPort p LinkPort.takeFrame)

/-- EOF_SENT (R157). -/
def execEofSent (p : Port) (s : State) : Host.Outcome State Fault Refusal :=
  s.answer (s.device.onPort p fun l => l.eofGone s.device.tb)

end Sys2Proof.Machine
end

