-- ==== Sys2Proof/Machine/ResetOps.lean ====
section
/-! DEFINITION. The hardware reset and the soft reset (section 9.4, and the reset rules of every chapter). -/

namespace Sys2Proof.Machine

/-- A hardware reset (R190): every block at its reset values, the clearing sweep started over the cells as they stand. -/
def Device.hardwareReset (d : Device) : Device := .hardwareResetWith d.smu.cells

/-- A soft reset (R190, R191). With KEEP_SURVEY the transform records keep their values and flags (R124, R105), and the maps keep
their cells and start no sweep, unless a sweep was running, which starts again (R81). -/
def Device.softReset (d : Device) (keepSurvey : Bool) : Device :=
  let r := Device.hardwareResetWith d.smu.cells
  if keepSurvey then
    { r with
      xfu := .resetWith d.xfu.records
      smu := .resetWith d.smu.cells (d.smu.sweep.map fun _ => 0)
      sbi := .resetWith .softKeep }
  else { r with sbi := .resetWith .soft }

end Sys2Proof.Machine
end

