-- ==== Sys2Proof/Machine/RegisterMap.lean ====
section
/-! DEFINITION. The register map (R194): what every word of the window reads, and what a 32-bit write of each word does (R186, R187). -/

namespace Sys2Proof.Machine

/-! ## Reads -/

/-- Word i of a group, 0 beyond its end. -/
def groupWord (words : List Word) (i : Nat) : Word := words.getD i 0

/-- A boolean table's bits from `low` up. DESIGN CHOICE: bit n of the field stands for port n (notes/assumptions/31.md). -/
def portBits (low : Nat) (v : PerPort Bool) : Word :=
  packed [bitAt low v.p0, bitAt (low + 1) v.p1, bitAt (low + 2) v.p2, bitAt (low + 3) v.p3]

/-- The words of an optional point, 0 while it is absent. -/
def pointWords (v : Option Vec3) : List Word :=
  match v with
  | some p => [intWord p.x, intWord p.y, intWord p.z]
  | none => [0, 0, 0]

/-- The value of an optional time, 0 while it is absent. -/
def timeWord (t : Option Word) : Word := t.getD 0

/-- The ROLL word of the roll entry: port 7:0 (0xFF for NONE), maker 31:16. -/
def RollCall.word (r : RollCall) : Word :=
  match r.entry with
  | some (p, i) => packed [fieldAt 0 8 p.val, fieldAt 16 16 i.maker.toNat]
  | none => 0xFF

/-- The three roll data words. -/
def RollCall.dataWords (r : RollCall) : List Word :=
  match r.entry with
  | some (_, i) => [fieldAt 0 16 i.model.toNat, i.serial, twoHalves i.firmware i.capability]
  | none => [0, 0, 0]

/-- The twelve values in staging order. -/
def TransformValues.words (v : TransformValues) : List Word :=
  [v.m11, v.m12, v.m13, v.m21, v.m22, v.m23, v.m31, v.m32, v.m33, v.tx, v.ty, v.tz]

/-- The parameter words P0 to P7. -/
def ParameterWords.words (q : ParameterWords) : List Word := [q.p0, q.p1, q.p2, q.p3, q.p4, q.p5, q.p6, q.p7]

/-- The words 0x000 to 0x08C. -/
def Device.systemWords (d : Device) : List Word :=
  [packed [bitAt 0 d.sbi.busWidth, bitAt 1 d.engine.startHeld, fieldAt 8 2 d.sbi.lastReset.code],
   0,
   packed [fieldAt 0 8 d.sbi.status.code.toNat, fieldAt 8 4 d.sbi.status.outcome.code, fieldAt 12 4 d.sbi.status.reason.code],
   0,
   fieldAt 0 14 d.notices.flags.toNat, fieldAt 0 14 d.notices.mask.toNat, bitAt 0 d.notices.enabled,
   fieldAt 0 4 d.notices.sourceWord,
   d.tb,
   d.roll.word] ++ d.roll.dataWords ++ [0, 0, 0] ++ d.sbi.parameters.words ++ d.sbi.staging.words

/-- The track group's first word: state, owner, candidate, blind. -/
def Track.firstWord (t : Track) : Word :=
  packed [fieldAt 0 3 t.state.code, portField 4 t.owner, portField 8 t.candidate, bitAt 12 t.blind]

/-- A path result's word. -/
def PathResult.word (r : PathResult) : Word :=
  packed [fieldAt 0 7 (r.obstacle.getD 0), fieldAt 8 7 r.suspect, bitAt 16 r.longPath]

/-- The nine counters in the order of R17. -/
def TrackCounters.words (c : TrackCounters) : List Word :=
  [c.accepted, c.stale, c.outliers, c.reseeds, c.handoffsDone, c.handoffsFailed, c.lateLocks, c.unsolicitedLocks,
   c.foreignObs].map fun h => h.setWidth 32

/-- The words 0x100 to 0x188. DESIGN CHOICE: in word 0x130 the deadline named first, handoff, has bit 0, and output bit 4
(notes/assumptions/32.md). -/
def Track.words (t : Track) : List Word :=
  [t.firstWord] ++ pointWords (some t.snapshot.position) ++ pointWords (some t.snapshot.velocity) ++
  [t.snapshot.lastUpdate, t.snapshot.pathResult.word,
   (match t.ownerAngles with | some a => twoHalves a.az a.el | none => 0),
   (match t.ownerAngles with | some a => a.time | none => 0),
   packed [fieldAt 0 4 t.outlierRun, portField 4 t.latePort, fieldAt 8 2 t.lastTakePort.val, bitAt 12 t.coastExpired,
     bitAt 13 t.noCandidate, portBits 16 t.acquireMask, bitAt 31 t.ownerAngles.isSome],
   packed [bitAt 0 t.deadlines.handoff.isSome, bitAt 1 t.deadlines.coast.isSome, bitAt 2 t.deadlines.search.isSome,
     bitAt 3 t.deadlines.query.isSome, bitAt 4 t.deadlines.output.isSome],
   timeWord t.deadlines.handoff, timeWord t.deadlines.coast, timeWord t.deadlines.search, timeWord t.deadlines.query,
   timeWord t.deadlines.output, 0, 0] ++ t.counters.words ++
  [packed [fieldAt 0 4 (failReasonCode t.failure.reason), portField 4 t.failure.port], t.failure.time,
   packed [portBits 0 t.searchPending, bitAt 8 t.searchPoint.isSome]] ++ pointWords t.searchPoint

/-- The words 0x200 to 0x248. -/
def Device.parameterWords (d : Device) : List Word :=
  let p := d.params
  ([p.alpha, p.beta, p.gate, p.outlierLimit, p.gap, Config.latencyMax, p.lookahead, p.suspectLimit, p.outputInterval,
    p.queryInterval, p.bearingMaxAge, p.handoffTimeout, p.handoffGate, p.holdOff, p.tieMode.code, p.coastTime, p.searchTime,
    p.searchRadius, d.xfu.pairMode.toNat] : List Nat).map fun n => BitVec.ofNat 32 n

/-- The words of a station status group. -/
def Device.stationWords (d : Device) (p : Port) : List Word :=
  let s := d.stations.get p
  [packed [fieldAt 0 3 s.state.code, bitAt 3 (d.hasTransform p), bitAt 4 s.quiet,
     fieldAt 5 2 (match s.quietPending with | none => 0 | some false => 1 | some true => 2),
     bitAt 7 s.learning, bitAt 8 s.identity.isSome, bitAt 9 s.holdOff.isSome, bitAt 10 s.mailbox.full,
     fieldAt 11 5 s.mailbox.content.length, fieldAt 16 8 s.tagCounter.toNat, fieldAt 24 8 s.transformGen.toNat],
   twoHalves s.counters.obsTaken s.counters.noTransformDrops, twoHalves s.counters.superseded s.counters.bearings,
   s.counters.tagMismatch.setWidth 32]

/-- The words of a bearing record (R119). -/
def Station.bearingWords (s : Station) : List Word :=
  (match s.query with
   | some q => [packed [fieldAt 0 8 q.tag.toNat, bitAt 8 true]] ++ pointWords (some q.point) ++ [q.time]
   | none => [0, 0, 0, 0, 0]) ++
  (match s.answer with
   | some a => [packed [fieldAt 0 8 a.tag.toNat, bitAt 8 true, bitAt 9 a.reach, fieldAt 12 4 a.cell.code],
       twoHalves a.az a.el, a.time]
   | none => [0, 0, 0])

/-- The words of a mailbox (R123): the content's bytes four to a word, 0 beyond the length; the length; the release word. -/
def Mailbox.words (m : Mailbox) : List Word :=
  ([0, 4, 8, 12, 16, 20] : List Nat).map (wordAt m.content) ++ [BitVec.ofNat 32 m.content.length, 0]

/-- The position field of the error capture: 5 bits. A position above 31 shows a free value. -/
def ErrorCapture.positionField (c : ErrorCapture) : Nat :=
  if c.position ≤ 31 then c.position else (Config.wideCapturePosition c.position).toNat

/-- The words of a port status group (R165). DESIGN CHOICE: with no frame in flight the in-flight kind and seq read 0
(notes/assumptions/29.md). -/
def LinkPort.words (l : LinkPort) : List Word :=
  let host := l.hostEntries
  [packed [fieldAt 0 2 l.state.code, fieldAt 4 3 l.training, fieldAt 8 2 l.sending.code,
     fieldAt 16 8 (match l.inFlight with | some f => f.frame.kindCode.toNat | none => 0), bitAt 24 l.idreqPending],
   packed [fieldAt 0 8 (match l.inFlight with | some f => f.seq.toNat | none => 0), fieldAt 8 2 (l.control.length - host),
     fieldAt 10 2 host, fieldAt 12 3 l.control.length, bitAt 15 l.slot.isSome, fieldAt 16 8 l.seqCounter.toNat],
   packed [bitAt 0 l.flags.parity, bitAt 1 l.flags.check, bitAt 2 l.flags.format, bitAt 3 l.flags.passOverrun,
     bitAt 4 l.flags.releaseLost, bitAt 5 l.flags.passLost, bitAt 8 (decide (l.state = .refusing))],
   packed [fieldAt 0 2 l.capture.cause.code, fieldAt 8 5 l.capture.positionField,
     fieldAt 16 8 (match l.capture.kind with | some k => k.toNat | none => 0), bitAt 24 l.capture.kind.isSome],
   l.capture.time,
   packed [fieldAt 0 8 (match l.views.observation with | some (a, _) => a.toNat | none => 0),
     fieldAt 8 8 (match l.views.observation with | some (_, b) => b.toNat | none => 0),
     fieldAt 16 8 (match l.views.beamBreak with | some (a, _) => a.toNat | none => 0),
     bitAt 24 l.views.observation.isNone, bitAt 25 l.views.beamBreak.isNone, bitAt 26 l.views.fail.isNone],
   packed [fieldAt 0 8 (match l.views.fail with | some (a, _) => a.toNat | none => 0),
     fieldAt 8 8 (match l.views.fail with | some (_, b) => b.toNat | none => 0),
     fieldAt 16 16 (match l.views.beamBreak with | some (_, b) => b.toNat | none => 0)],
   twoHalves l.counters.framesIn l.counters.naksSent]

/-- The two words of a port's other counters (0x580 + 0x08·n). -/
def LinkPort.moreWords (l : LinkPort) : List Word :=
  [twoHalves l.counters.framesSent l.counters.undelivered, l.counters.strayAnswers.setWidth 32]

/-- The words of a transform record (R124). -/
def TransformRecord.words (r : TransformRecord) : List Word := bitAt 0 r.loaded :: r.values.words

/-- A port's byte of word 0x704: OUTSTANDING in its bits 1:0, the waiting count in its bits 5:4. -/
def Xfu.portByte (x : Xfu) (p : Port) : Word :=
  packed [fieldAt (8 * p.val) 2 (x.outstanding.get p), fieldAt (8 * p.val + 4) 2 (x.ingest.get p).length]

/-- Whether the query queue holds a request of a kind for a station. -/
def Xfu.hasRequest (x : Xfu) (kind : Option InverseKind) (p : Port) : Bool :=
  x.queryQueue.any fun r => decide (r.station = p) && (match kind with | some k => decide (r.kind = k) | none => true)

/-- The words 0x700 to 0x710 (R142). DESIGN CHOICE: with no operation in flight the requester and kind read 0
(notes/assumptions/29.md), and bit n of the query queue’s presence and kinds stands for port n (notes/assumptions/31.md). -/
def Xfu.words (x : Xfu) : List Word :=
  [packed [bitAt 0 x.operation.isSome,
     fieldAt 1 3 (match x.operation with | some o => o.job.requester.code | none => 0),
     fieldAt 4 2 (match x.operation with | some o => o.job.kindCode | none => 0),
     fieldAt 8 3 x.pointer.code, bitAt 11 x.pairFlag, bitAt 12 x.pairMode],
   packed (allPorts.map x.portByte),
   packed (allPorts.map (fun p => bitAt p.val (x.hasRequest none p)) ++
     allPorts.map (fun p => bitAt (8 + p.val) (x.hasRequest (some .search) p))),
   twoHalves x.forwardSat x.inverseSat, x.grantDrops.setWidth 32]

/-- The words 0x740 to 0x758 (R104). -/
def Smu.words (m : Smu) : List Word :=
  [packed [bitAt 0 m.sweep.isNone, bitAt 1 m.running.isSome, fieldAt 4 4 m.status.kind.code, fieldAt 8 2 m.status.result.code],
   BitVec.ofNat 32 m.status.cellsWritten,
   packed [fieldAt 0 10 m.status.runCount, fieldAt 12 2 m.status.runStop.code, fieldAt 16 9 m.status.runStopColumn],
   twoHalves m.learnReplaced.p0 m.learnReplaced.p1, twoHalves m.learnReplaced.p2 m.learnReplaced.p3,
   packed [fieldAt 0 9 m.peek.column.toNat, fieldAt 16 7 m.peek.row.toNat, fieldAt 24 2 m.peek.station.val],
   fieldAt 0 4 m.peekCell.code]

/-- The words of an address window: control, base, target. -/
def Window.words (w : Window) : List Word := [packed [bitAt 0 w.enabled, fieldAt 8 5 w.exponent], w.base, w.target]

/-- The words 0x780 to 0x7D4 (R169, R172, R182). DESIGN CHOICE: with no current descriptor its seven words read 0
(notes/assumptions/29.md). -/
def Engine.words (e : Engine) : List Word :=
  let c := e.current.getD (freshDescriptor 0)
  [packed [bitAt 8 e.bigEndian, bitAt 9 e.flushOnLost],
   packed [fieldAt 0 3 e.state.code, fieldAt 4 3 (accessCode e.access), fieldAt 8 3 (heldCode e.held),
     fieldAt 16 5 e.fifo.length, bitAt 24 e.flush.isSome],
   BitVec.ofNat 32 (e.flush.getD 0),
   c.address, c.buffer, c.capacity.setWidth 32, c.next, c.writeback, BitVec.ofNat 32 c.written, c.lastSeq.setWidth 32,
   e.lastDescriptor, BitVec.ofNat 32 (engineErrorCode e.error), e.errorAddress, e.produced, e.written, e.dropped] ++
  e.window0.words ++ e.window1.words

/-- The port whose copy of a group holds an offset: groups of `stride` bytes from `base`. -/
def groupPort (base stride offset : Nat) : Port :=
  match (offset - base) / stride with
  | 0 => 0
  | 1 => 1
  | 2 => 2
  | _ => 3

/-- The word of a per-port group at an offset. -/
def portGroupWord (base stride offset : Nat) (words : Port → List Word) : Word :=
  groupWord (words (groupPort base stride offset)) ((offset - base) % stride / 4)

/-- What a read returns (R186, R194): the word that holds the addressed bytes; 0 where no register stands. The effects of a read of
the track group's first word and of ROLL are those of TRACK_SNAPSHOT and ROLL_READ. -/
def Device.readWord (d : Device) (offset : BitVec 12) : Word :=
  let o := offset.toNat
  if o < 0x100 then groupWord d.systemWords (o / 4)
  else if o < 0x200 then groupWord d.track.words ((o - 0x100) / 4)
  else if o < 0x300 then groupWord d.parameterWords ((o - 0x200) / 4)
  else if o < 0x380 then portGroupWord 0x300 0x20 o d.stationWords
  else if o < 0x400 then portGroupWord 0x380 0x20 o fun p => (d.stations.get p).bearingWords
  else if o < 0x480 then portGroupWord 0x400 0x20 o fun p => (d.stations.get p).mailbox.words
  else if o < 0x500 then portGroupWord 0x480 0x20 o fun p => (d.ports.get p).words
  else if o < 0x580 then 0
  else if o < 0x5A0 then portGroupWord 0x580 0x08 o fun p => (d.ports.get p).moreWords
  else if o < 0x600 then 0
  else if o < 0x700 then portGroupWord 0x600 0x40 o fun p => (d.xfu.records.get p).words
  else if o < 0x740 then groupWord d.xfu.words ((o - 0x700) / 4)
  else if o < 0x780 then groupWord d.smu.words ((o - 0x740) / 4)
  else if o < 0x800 then groupWord d.engine.words ((o - 0x780) / 4)
  else 0

/-! ## Writes -/

/-- A parameter's new value (R187): the word as an unsigned number, clamped into the range. -/
def clampWord (lo hi : Nat) (w : Word) : Nat := clampNat lo hi w.toNat

/-- A write of parameter register i (0x200 + 4·i), with the ranges of sections 1.5, 2.7 and 3.5. LATENCY_MAX (i = 5) takes none. -/
def Params.write (p : Params) (i : Nat) (w : Word) : Params :=
  match i with
  | 0 => { p with alpha := clampWord 1 65535 w }
  | 1 => { p with beta := clampWord 0 65535 w }
  | 2 => { p with gate := clampWord 100 1000000 w }
  | 3 => { p with outlierLimit := clampWord 1 15 w }
  | 4 => { p with gap := clampWord 1000 1000000 w }
  | 6 => { p with lookahead := clampWord 0 200000 w }
  | 7 => { p with suspectLimit := clampWord 1 15 w }
  | 8 => { p with outputInterval := clampWord 1000 1000000 w }
  | 9 => { p with queryInterval := clampWord 5000 500000 w }
  | 10 => { p with bearingMaxAge := clampWord 5000 1000000 w }
  | 11 => { p with handoffTimeout := clampWord 10000 1000000 w }
  | 12 => { p with handoffGate := clampWord 100 1000000 w }
  | 13 => { p with holdOff := clampWord 0 5000000 w }
  | 14 => { p with tieMode := if w = 0 then .fixed else .rotating }
  | 15 => { p with coastTime := clampWord 0 2000000 w }
  | 16 => { p with searchTime := clampWord 100000 30000000 w }
  | 17 => { p with searchRadius := clampWord 1000 5000000 w }
  | _ => p

/-- A write of parameter word i. -/
def ParameterWords.write (q : ParameterWords) (i : Nat) (w : Word) : ParameterWords :=
  match i with
  | 0 => { q with p0 := w }
  | 1 => { q with p1 := w }
  | 2 => { q with p2 := w }
  | 3 => { q with p3 := w }
  | 4 => { q with p4 := w }
  | 5 => { q with p5 := w }
  | 6 => { q with p6 := w }
  | 7 => { q with p7 := w }
  | _ => q

/-- A write of staging word i. -/
def TransformValues.write (v : TransformValues) (i : Nat) (w : Word) : TransformValues :=
  match i with
  | 0 => { v with m11 := w }
  | 1 => { v with m12 := w }
  | 2 => { v with m13 := w }
  | 3 => { v with m21 := w }
  | 4 => { v with m22 := w }
  | 5 => { v with m23 := w }
  | 6 => { v with m31 := w }
  | 7 => { v with m32 := w }
  | 8 => { v with m33 := w }
  | 9 => { v with tx := w }
  | 10 => { v with ty := w }
  | 11 => { v with tz := w }
  | _ => v

/-- A write of a window's word: control (enable bit 0, size exponent 12:8 clamped into 12..31), base, target (R172, R194). -/
def Window.write (v : Window) (i : Nat) (w : Word) : Window :=
  match i with
  | 0 => { v with enabled := w.getLsbD 0, exponent := clampNat 12 31 (w.toNat / 256 % 32) }
  | 1 => { v with base := w }
  | 2 => { v with target := w }
  | _ => v

/-- The peek selector a word holds (R194). -/
def peekOfWord (w : Word) : PeekSelector where
  station := ⟨w.toNat / 16777216 % 4, Nat.mod_lt _ (by decide)⟩
  column := w.extractLsb' 0 9
  row := w.extractLsb' 16 7

/-- The write-one-to-clear of BUS_WIDTH (R191). -/
def Device.clearBusWidth (d : Device) : Device := d.onSbi fun b => { b with busWidth := false }

/-- A write narrower than 32 bits sets BUS_WIDTH (R186). -/
def Device.markBusWidth (d : Device) : Device := d.onSbi fun b => { b with busWidth := true }

/-- A write of the notice flag word (R185): bits above 13 are discarded. -/
def Device.clearNotices (d : Device) (w : Word) : Device :=
  { d with notices := d.notices.clear d.conditions (w.extractLsb' 0 14) }

/-- A write of the notice mask word (R184). -/
def Device.writeMask (d : Device) (w : Word) : Device := { d with notices := { d.notices with mask := w.extractLsb' 0 14 } }

/-- A write of the notice control word (R184). -/
def Device.writeNoticeControl (d : Device) (w : Word) : Device :=
  { d with notices := { d.notices with enabled := w.getLsbD 0 } }

/-- A write of ROLL restarts the roll call (R111). -/
def Device.rollRestart (d : Device) : Device := { d with roll := ⟨0, none⟩ }

/-- A write of a port's flag word (R154). -/
def Device.clearPortFlags (d : Device) (p : Port) (w : Word) : Device := d.onPort p fun l => { l with flags := l.flags.clear w }

/-- A write of PAIR mode (R137). -/
def Device.writePairMode (d : Device) (w : Word) : Device := d.onXfu fun x => x.setPairMode (decide (w ≠ 0))

/-- A write of the reset control word (R190): without SOFT_RESET it does nothing. -/
def Device.writeResetControl (d : Device) (w : Word) : Device :=
  if w.getLsbD 0 then d.softReset (w.getLsbD 1) else d

/-- A 32-bit write of the window (R186, R187, R194): a plain register stores the value, a register with an action acts, and a write to
a read-only word or to no register is discarded. -/
def Device.writeWord (d : Device) (offset : BitVec 12) (w : Word) : Device :=
  let o := offset.toNat
  if o % 4 ≠ 0 then d
  else if o = 0x000 then (if w.getLsbD 0 then d.clearBusWidth else d)
  else if o = 0x004 then d.writeCommand (w.extractLsb' 0 8)
  else if o = 0x00C then d.writeResetControl w
  else if o = 0x010 then d.clearNotices w
  else if o = 0x014 then d.writeMask w
  else if o = 0x018 then d.writeNoticeControl w
  else if o = 0x024 then d.rollRestart
  else if 0x040 ≤ o ∧ o < 0x060 then
    d.onSbi fun b => { b with parameters := b.parameters.write ((o - 0x040) / 4) w }
  else if 0x060 ≤ o ∧ o < 0x090 then
    d.onSbi fun b => { b with staging := b.staging.write ((o - 0x060) / 4) w }
  else if 0x200 ≤ o ∧ o < 0x248 then { d with params := d.params.write ((o - 0x200) / 4) w }
  else if o = 0x248 then d.writePairMode w
  else if 0x400 ≤ o ∧ o < 0x480 ∧ o % 0x20 = 0x1C then d.releaseMailbox (groupPort 0x400 0x20 o)
  else if 0x480 ≤ o ∧ o < 0x500 ∧ o % 0x20 = 0x08 then d.clearPortFlags (groupPort 0x480 0x20 o) w
  else if o = 0x754 then d.onSmu fun m => { m with peek := peekOfWord w }
  else if o = 0x780 then d.engineControl w
  else if 0x7C0 ≤ o ∧ o < 0x7CC then d.onEngine fun e => { e with window0 := e.window0.write ((o - 0x7C0) / 4) w }
  else if 0x7CC ≤ o ∧ o < 0x7D8 then d.onEngine fun e => { e with window1 := e.window1.write ((o - 0x7CC) / 4) w }
  else d

/-- The word a read returned, kept for the reader (Sbi.readData). -/
def Device.returnWord (d : Device) (w : Word) : Device := d.onSbi fun b => { b with readData := w }

/-- A read of the track group's first word (R2): the snapshot, and the word. -/
def Device.snapshotTrack (d : Device) : Device :=
  (d.onTrack fun t => { t with snapshot := ⟨t.position, t.velocity, t.lastUpdate, t.pathResult⟩ }).returnWord d.track.firstWord

/-- A read of ROLL (R111): the roll call advances, and the word is the new entry's. -/
def Device.readRoll (d : Device) : Device := d.rollAdvance.returnWord d.rollAdvance.roll.word

end Sys2Proof.Machine
end

