-- ==== Sys2Proof/Machine/MapCommands.lean ====
section
/-! DEFINITION. The commands and events of the sight map unit. -/

namespace Sys2Proof.Machine

/-- MAP_FILL (R93, R96). Its parameters stand in the parameter words; the command status is replaced (R188). -/
def execMapFill (s : State) : Host.Outcome State Fault Refusal :=
  s.answer (s.device.command 0x20 Device.judgeMapFill)

/-- MAP_COPY (R93, R97). Its parameters stand in the parameter words; the command status is replaced (R188). -/
def execMapCopy (s : State) : Host.Outcome State Fault Refusal :=
  s.answer (s.device.command 0x21 Device.judgeMapCopy)

/-- MAP_LINE (R93, R99). Its parameters stand in the parameter words; the command status is replaced (R188). -/
def execMapLine (s : State) : Host.Outcome State Fault Refusal :=
  s.answer (s.device.command 0x22 Device.judgeMapLine)

/-- MAP_RUN (R93, R100). Its parameters stand in the parameter words; the command status is replaced (R188). -/
def execMapRun (s : State) : Host.Outcome State Fault Refusal :=
  s.answer (s.device.command 0x23 Device.judgeMapRun)

/-- MAP_CLEAR (R93, R101). Its parameters stand in the parameter words; the command status is replaced (R188). -/
def execMapClear (s : State) : Host.Outcome State Fault Refusal :=
  s.answer (s.device.command 0x24 Device.judgeMapClear)

/-- MAP_ABORT (R102). Its parameters stand in the parameter words; the command status is replaced (R188). -/
def execMapAbort (s : State) : Host.Outcome State Fault Refusal :=
  s.answer (s.device.command 0x25 Device.judgeMapAbort)

/-- MAP_PEEK (R103): a read of the peek data word returns the state code of the selected cell and changes no map. -/
def execMapPeek (s : State) : Host.Outcome State Fault Refusal :=
  s.answer (s.device.returnWord (s.device.readWord 0x758))

/-- LEARNING_REQUEST (R83): the oldest request of a source is applied, latched or discarded. -/
def execLearningRequest (source : LearnSource) (s : State) : Host.Outcome State Fault Refusal :=
  s.answer (s.device.takeLearning source)

/-- POINT_LOOKUP (R88): the oldest lookup of a station is taken. -/
def execPointLookup (p : Port) (s : State) : Host.Outcome State Fault Refusal :=
  s.answer (s.device.takeLookup p)

/-- LOOKUP_RESULT (R120): the oldest lookup of a station returns to the station table. -/
def execLookupResult (p : Port) (s : State) : Host.Outcome State Fault Refusal :=
  s.answer (s.device.storeLookup p)

/-- PATH_SCAN (R89 to R91): the oldest scan request is taken. -/
def execPathScan (s : State) : Host.Outcome State Fault Refusal :=
  s.answer s.device.takeScan

/-- PATH_SCAN_RESULT (R20, R40): the oldest scan result reaches the track unit. -/
def execPathScanResult (s : State) : Host.Outcome State Fault Refusal :=
  s.answer s.device.handBackScan

/-- MAP_CELL_STEP (R94): the running map command visits one cell. -/
def execMapCellStep (s : State) : Host.Outcome State Fault Refusal :=
  s.answer s.device.mapStep

/-- CLEARING_SWEEP_STEP (R80): the sweep writes UNKNOWN into its next cell. -/
def execClearingSweepStep (s : State) : Host.Outcome State Fault Refusal :=
  s.answer s.device.sweepStep

end Sys2Proof.Machine
end

