-- ==== Sys2Proof/Machine/RegisterAccess.lean ====
section
/-! DEFINITION. The reads and writes of the register window that have an effect of their own, and the plain register write. -/

namespace Sys2Proof.Machine

/-- TRACK_SNAPSHOT (R2): a read of the track group's first word. -/
def execTrackSnapshot (s : State) : Host.Outcome State Fault Refusal :=
  s.answer s.device.snapshotTrack

/-- ROLL_READ (R111). -/
def execRollRead (s : State) : Host.Outcome State Fault Refusal :=
  s.answer s.device.readRoll

/-- ROLL_WRITE (R111): the roll call restarts, whatever value is written. -/
def execRollWrite (_value : Word) (s : State) : Host.Outcome State Fault Refusal :=
  s.answer s.device.rollRestart

/-- NOTICE_FLAG_CLEAR (R185). -/
def execNoticeFlagClear (value : Word) (s : State) : Host.Outcome State Fault Refusal :=
  s.answer (s.device.clearNotices value)

/-- NOTICE_MASK_WRITE (R184). -/
def execNoticeMaskWrite (value : Word) (s : State) : Host.Outcome State Fault Refusal :=
  s.answer (s.device.writeMask value)

/-- NOTICE_CONTROL_WRITE (R184). -/
def execNoticeControlWrite (value : Word) (s : State) : Host.Outcome State Fault Refusal :=
  s.answer (s.device.writeNoticeControl value)

/-- BUS_WIDTH_CLEAR (R191). -/
def execBusWidthClear (s : State) : Host.Outcome State Fault Refusal :=
  s.answer s.device.clearBusWidth

/-- SUB_WORD_WRITE (R186): the write is discarded and BUS_WIDTH is set. -/
def execSubWordWrite (_offset : BitVec 12) (_value : Word) (s : State) : Host.Outcome State Fault Refusal :=
  s.answer s.device.markBusWidth

/-- REGISTER_WRITE (R186, R187): a 32-bit write of the window. -/
def execRegisterWrite (offset : BitVec 12) (value : Word) (s : State) : Host.Outcome State Fault Refusal :=
  s.answer (s.device.writeWord offset value)

/-- UNKNOWN_COMMAND_CODE (R188): a write of the command register; a code that is none of the eighteen is refused with VALUE. -/
def execUnknownCommandCode (code : Byte) (s : State) : Host.Outcome State Fault Refusal :=
  s.answer (s.device.writeCommand code)

end Sys2Proof.Machine
end

