-- ==== Sys2Proof/Machine/Resets.lean ====
section
/-! DEFINITION. The two resets. -/

namespace Sys2Proof.Machine

/-- HARDWARE_RESET (R1, R190): every block at its reset values, TB 0, the clearing sweep started. -/
def execHardwareReset (s : State) : Host.Outcome State Fault Refusal :=
  s.answer s.device.hardwareReset

/-- SOFT_RESET (R190, R191), with KEEP_SURVEY on or off. -/
def execSoftReset (keepSurvey : Bool) (s : State) : Host.Outcome State Fault Refusal :=
  s.answer (s.device.softReset keepSurvey)

end Sys2Proof.Machine
end

