-- ==== Sys2Proof/Machine/StationCommands.lean ====
section
/-! DEFINITION. The commands and register writes of the station table, the transform unit and the link ports. -/

namespace Sys2Proof.Machine

/-- LOAD_TRANSFORM (R112). Its parameters stand in the parameter words; the command status is replaced (R188). -/
def execLoadTransform (s : State) : Host.Outcome State Fault Refusal :=
  s.answer (s.device.command 0x10 Device.judgeLoad)

/-- UNLOAD_TRANSFORM (R113). Its parameters stand in the parameter words; the command status is replaced (R188). -/
def execUnloadTransform (s : State) : Host.Outcome State Fault Refusal :=
  s.answer (s.device.command 0x11 Device.judgeUnload)

/-- SET_QUIET (R115). Its parameters stand in the parameter words; the command status is replaced (R188). -/
def execSetQuiet (s : State) : Host.Outcome State Fault Refusal :=
  s.answer (s.device.command 0x12 Device.judgeSetQuiet)

/-- SET_LEARNING (R116). Its parameters stand in the parameter words; the command status is replaced (R188). -/
def execSetLearning (s : State) : Host.Outcome State Fault Refusal :=
  s.answer (s.device.command 0x13 Device.judgeSetLearning)

/-- SET_OUTSTANDING (R131). Its parameters stand in the parameter words; the command status is replaced (R188). -/
def execSetOutstanding (s : State) : Host.Outcome State Fault Refusal :=
  s.answer (s.device.command 0x14 Device.judgeSetOutstanding)

/-- PASS_SEND (R161). Its parameters stand in the parameter words; the command status is replaced (R188). -/
def execPassSend (s : State) : Host.Outcome State Fault Refusal :=
  s.answer (s.device.command 0x30 Device.judgePassSend)

/-- PAIR_MODE_WRITE (R137): 0 is off, any other value is clamped to on. -/
def execPairModeWrite (value : Word) (s : State) : Host.Outcome State Fault Refusal :=
  s.answer (s.device.writePairMode value)

/-- PORT_FLAG_CLEAR (R154): bits written 1 clear their sticky flags. -/
def execPortFlagClear (p : Port) (value : Word) (s : State) : Host.Outcome State Fault Refusal :=
  s.answer (s.device.clearPortFlags p value)

/-- MAILBOX_RELEASE (R123): the mailbox is emptied, whatever value is written. -/
def execMailboxRelease (p : Port) (_value : Word) (s : State) : Host.Outcome State Fault Refusal :=
  s.answer (s.device.releaseMailbox p)

end Sys2Proof.Machine
end

