-- ==== Sys2Proof/Machine/TrackCommands.lean ====
section
/-! DEFINITION. The commands of the track unit. -/

namespace Sys2Proof.Machine

/-- ARM (R31). Its parameters stand in the parameter words; the command status is replaced (R188). -/
def execArm (s : State) : Host.Outcome State Fault Refusal :=
  s.answer (s.device.command 0x01 Device.judgeArm)

/-- CANCEL (R56). Its parameters stand in the parameter words; the command status is replaced (R188). -/
def execCancel (s : State) : Host.Outcome State Fault Refusal :=
  s.answer (s.device.command 0x02 Device.judgeCancel)

/-- HANDOFF_TO (R43). Its parameters stand in the parameter words; the command status is replaced (R188). -/
def execHandoffTo (s : State) : Host.Outcome State Fault Refusal :=
  s.answer (s.device.command 0x03 Device.judgeHandoffTo)

end Sys2Proof.Machine
end

