-- ==== Sys2Proof/Machine/TransformEvents.lean ====
section
/-! DEFINITION. The events of the transform unit. -/

namespace Sys2Proof.Machine

/-- XFU_GRANT (R135 to R138). -/
def execXfuGrant (s : State) : Host.Outcome State Fault Refusal :=
  s.answer s.device.grant

/-- XFU_COMPLETION (R139, R140). -/
def execXfuCompletion (s : State) : Host.Outcome State Fault Refusal :=
  s.answer s.device.complete

end Sys2Proof.Machine
end

