-- ==== Sys2Proof/Machine/Dispatch.lean ====
section
/-! DEFINITION. The meaning of every command, one arm for each row of spec/opcode_table.json. -/

namespace Sys2Proof.Machine

/-- What a command makes of the machine: one direct call of its meaning. -/
def exec (i : Instr) (s : State) : Host.Outcome State Fault Refusal :=
  match i with
  | .hardwareReset => Sys2Proof.Machine.execHardwareReset s
  | .softReset keepSurvey => Sys2Proof.Machine.execSoftReset keepSurvey s
  | .arm => Sys2Proof.Machine.execArm s
  | .cancel => Sys2Proof.Machine.execCancel s
  | .handoffTo => Sys2Proof.Machine.execHandoffTo s
  | .loadTransform => Sys2Proof.Machine.execLoadTransform s
  | .unloadTransform => Sys2Proof.Machine.execUnloadTransform s
  | .setQuiet => Sys2Proof.Machine.execSetQuiet s
  | .setLearning => Sys2Proof.Machine.execSetLearning s
  | .setOutstanding => Sys2Proof.Machine.execSetOutstanding s
  | .mapFill => Sys2Proof.Machine.execMapFill s
  | .mapCopy => Sys2Proof.Machine.execMapCopy s
  | .mapLine => Sys2Proof.Machine.execMapLine s
  | .mapRun => Sys2Proof.Machine.execMapRun s
  | .mapClear => Sys2Proof.Machine.execMapClear s
  | .mapAbort => Sys2Proof.Machine.execMapAbort s
  | .mapPeek => Sys2Proof.Machine.execMapPeek s
  | .passSend => Sys2Proof.Machine.execPassSend s
  | .roeStart => Sys2Proof.Machine.execRoeStart s
  | .roeFlush => Sys2Proof.Machine.execRoeFlush s
  | .roeResume => Sys2Proof.Machine.execRoeResume s
  | .enable bigEndian flushOnLost => Sys2Proof.Machine.execEnable bigEndian flushOnLost s
  | .disable bigEndian flushOnLost => Sys2Proof.Machine.execDisable bigEndian flushOnLost s
  | .engineReset bigEndian flushOnLost => Sys2Proof.Machine.execEngineReset bigEndian flushOnLost s
  | .engineControlSettings bigEndian flushOnLost => Sys2Proof.Machine.execEngineControlSettings bigEndian flushOnLost s
  | .pairModeWrite value => Sys2Proof.Machine.execPairModeWrite value s
  | .trackSnapshot => Sys2Proof.Machine.execTrackSnapshot s
  | .rollRead => Sys2Proof.Machine.execRollRead s
  | .rollWrite value => Sys2Proof.Machine.execRollWrite value s
  | .noticeFlagClear value => Sys2Proof.Machine.execNoticeFlagClear value s
  | .noticeMaskWrite value => Sys2Proof.Machine.execNoticeMaskWrite value s
  | .noticeControlWrite value => Sys2Proof.Machine.execNoticeControlWrite value s
  | .portFlagClear p value => Sys2Proof.Machine.execPortFlagClear p value s
  | .busWidthClear => Sys2Proof.Machine.execBusWidthClear s
  | .mailboxRelease p value => Sys2Proof.Machine.execMailboxRelease p value s
  | .subWordWrite offset value => Sys2Proof.Machine.execSubWordWrite offset value s
  | .registerWrite offset value => Sys2Proof.Machine.execRegisterWrite offset value s
  | .queryDeadlineExpiry => Sys2Proof.Machine.execQueryDeadlineExpiry s
  | .outputDeadlineExpiry => Sys2Proof.Machine.execOutputDeadlineExpiry s
  | .handoffDeadlineExpiry => Sys2Proof.Machine.execHandoffDeadlineExpiry s
  | .coastDeadlineExpiry => Sys2Proof.Machine.execCoastDeadlineExpiry s
  | .searchDeadlineExpiry => Sys2Proof.Machine.execSearchDeadlineExpiry s
  | .holdOffExpiry p => Sys2Proof.Machine.execHoldOffExpiry p s
  | .silenceDeadlineExpiry p => Sys2Proof.Machine.execSilenceDeadlineExpiry p s
  | .answerDeadlineExpiry p => Sys2Proof.Machine.execAnswerDeadlineExpiry p s
  | .idleCharacter p => Sys2Proof.Machine.execIdleCharacter p s
  | .sof p => Sys2Proof.Machine.execSof p s
  | .brk p => Sys2Proof.Machine.execBrk p s
  | .ack p => Sys2Proof.Machine.execAck p s
  | .nak p => Sys2Proof.Machine.execNak p s
  | .frameCheckFail p chars => Sys2Proof.Machine.execFrameCheckFail p chars s
  | .formatFail p kind seq payload => Sys2Proof.Machine.execFormatFail p kind seq payload s
  | .obs p seq report => Sys2Proof.Machine.execObs p seq report s
  | .lock p seq report => Sys2Proof.Machine.execLock p seq report s
  | .breakFrame p seq report => Sys2Proof.Machine.execBreakFrame p seq report s
  | .failFrame p seq orderKind reason => Sys2Proof.Machine.execFailFrame p seq orderKind reason s
  | .bearing p seq report => Sys2Proof.Machine.execBearing p seq report s
  | .ident p seq identity => Sys2Proof.Machine.execIdent p seq identity s
  | .pass p seq payload => Sys2Proof.Machine.execPass p seq payload s
  | .outboundFrameTake p => Sys2Proof.Machine.execOutboundFrameTake p s
  | .eofSent p => Sys2Proof.Machine.execEofSent p s
  | .xfuGrant => Sys2Proof.Machine.execXfuGrant s
  | .xfuCompletion => Sys2Proof.Machine.execXfuCompletion s
  | .learningRequest source => Sys2Proof.Machine.execLearningRequest source s
  | .pointLookup p => Sys2Proof.Machine.execPointLookup p s
  | .lookupResult p => Sys2Proof.Machine.execLookupResult p s
  | .pathScan => Sys2Proof.Machine.execPathScan s
  | .pathScanResult => Sys2Proof.Machine.execPathScanResult s
  | .mapCellStep => Sys2Proof.Machine.execMapCellStep s
  | .clearingSweepStep => Sys2Proof.Machine.execClearingSweepStep s
  | .recordWriteBegin => Sys2Proof.Machine.execRecordWriteBegin s
  | .recordWriteEnd ok => Sys2Proof.Machine.execRecordWriteEnd ok s
  | .writebackEnd ok => Sys2Proof.Machine.execWritebackEnd ok s
  | .descriptorReadEnd answer => Sys2Proof.Machine.execDescriptorReadEnd answer s
  | .rereadEnd answer => Sys2Proof.Machine.execRereadEnd answer s
  | .dataCharacter p c => Sys2Proof.Machine.execDataCharacter p c s
  | .eof p => Sys2Proof.Machine.execEof p s
  | .unknownCommandCode code => Sys2Proof.Machine.execUnknownCommandCode code s

end Sys2Proof.Machine
end

