-- ==== Sys2Proof/Machine/Step.lean ====
section
/-! DEFINITION. One step of the machine: the oldest waiting command, or a tick of the time base. -/

namespace Sys2Proof.Machine

/-- One step: the command at the front of the queue is taken and run on the rest; with none waiting one microsecond passes
(notes/assumptions/2.md). -/
def step (s : State) : Host.Outcome State Fault Refusal :=
  match s.pending with
  | [] => s.answer s.device.tick
  | c :: rest => exec c { s with pending := rest }

/-- The machine with the command a table word spells put at the front of its queue. No word spells one, so the machine is as it was
(Decode.lean). -/
def State.withFetchWord (s : State) (nbits w : Nat) : State :=
  match decodeTableWord nbits w with
  | some c => { s with pending := c :: s.pending }
  | none => s

end Sys2Proof.Machine
end

