-- ==== Sys2Proof/Safety.lean ====
section
/-! DEFINITION. What always holds of the part: the laws of the data book that every event keeps. -/

namespace Sys2Proof.Machine

/-- The dispatch table (R189): each command code and its command. -/
def commandTable : List (Byte × Instr) :=
  [(0x01, .arm), (0x02, .cancel), (0x03, .handoffTo), (0x10, .loadTransform), (0x11, .unloadTransform), (0x12, .setQuiet),
   (0x13, .setLearning), (0x14, .setOutstanding), (0x20, .mapFill), (0x21, .mapCopy), (0x22, .mapLine), (0x23, .mapRun),
   (0x24, .mapClear), (0x25, .mapAbort), (0x30, .passSend), (0x40, .roeStart), (0x41, .roeFlush), (0x42, .roeResume)]

/-- The registers that keep what is written to them (R187, R194), each with what it reads after a write of a word: the notice mask and
control, P0 to P7, the staging words, the parameters with their ranges (sections 1.5, 2.7, 3.5), the peek selector and the windows. -/
def storedRegisters : List (BitVec 12 × (Word → Word)) :=
  let clamped := fun (lo hi : Nat) (w : Word) => BitVec.ofNat 32 (max lo (min w.toNat hi))
  let control := fun w : Word => (w &&& 1) ||| (clamped 12 31 ((w >>> 8) &&& 0x1F) <<< 8)
  [(0x014, fun w => w &&& 0x3FFF), (0x018, fun w => w &&& 1)] ++
  [(0x040, id), (0x044, id), (0x048, id), (0x04C, id), (0x050, id), (0x054, id), (0x058, id), (0x05C, id)] ++
  [(0x060, id), (0x064, id), (0x068, id), (0x06C, id), (0x070, id), (0x074, id), (0x078, id), (0x07C, id), (0x080, id),
   (0x084, id), (0x088, id), (0x08C, id)] ++
  [(0x200, clamped 1 65535), (0x204, clamped 0 65535), (0x208, clamped 100 1000000), (0x20C, clamped 1 15),
   (0x210, clamped 1000 1000000), (0x218, clamped 0 200000), (0x21C, clamped 1 15), (0x220, clamped 1000 1000000),
   (0x224, clamped 5000 500000), (0x228, clamped 5000 1000000), (0x22C, clamped 10000 1000000), (0x230, clamped 100 1000000),
   (0x234, clamped 0 5000000), (0x238, clamped 0 1), (0x23C, clamped 0 2000000), (0x240, clamped 100000 30000000),
   (0x244, clamped 1000 5000000)] ++
  [(0x754, fun w => w &&& 0x037F01FF)] ++
  [(0x7C0, control), (0x7C4, id), (0x7C8, id), (0x7CC, control), (0x7D0, id), (0x7D4, id)]

/-- The registers whose write is an action (R185 to R191, R111, R123, R137, R154, R169). -/
def actingRegisters : List (BitVec 12) :=
  [0x000, 0x004, 0x00C, 0x010, 0x024, 0x248, 0x41C, 0x43C, 0x45C, 0x47C, 0x488, 0x4A8, 0x4C8, 0x4E8, 0x780]

/-- The table whose value at each port is a function of the port. -/
def eachPort {α : Type} (f : Port → α) : PerPort α := ⟨f 0, f 1, f 2, f 3⟩

/-- Whether the owner field is present in a track state (R27). -/
def TrackState.owned (s : TrackState) : Bool :=
  match s with
  | .tracking | .handoff | .coast => true
  | _ => false

/-- Whether stations search in a track state (R27). -/
def TrackState.searches (s : TrackState) : Bool :=
  match s with
  | .acquire | .search => true
  | _ => false

/-- R27: an OWNER station is the one the owner field names; the owner field is present exactly in TRACKING, HANDOFF and COAST; a TAKING
station is the candidate of a HANDOFF; stations are SEARCHING only in ACQUIRE and SEARCH. -/
structure Device.RolesAgree (d : Device) : Prop where
  owner_named : ∀ p, d.stationState p = .owner → d.track.owner = some p
  owner_present : d.track.owner.isSome = d.track.state.owned
  taking_candidate : ∀ p, d.stationState p = .taking → d.track.state = .handoff ∧ d.track.candidate = some p
  searching_state : ∀ p, d.stationState p = .searching → d.track.state.searches = true

/-- The fields of the track that come and go with its state: the five deadlines (R21, R36, R42, R46, R54, R59, R68, R75), blind, the
candidate, never the owner (R38, R42), and the search point with search_pending (R69). -/
structure Track.FollowsState (t : Track) : Prop where
  query : t.deadlines.query.isSome = t.state.owned
  handoff : t.deadlines.handoff.isSome = decide (t.state = .handoff)
  search : t.deadlines.search.isSome = t.state.searches
  output : t.deadlines.output.isSome = t.blind
  coast : t.deadlines.coast.isSome = (t.blind && !t.coastExpired)
  blind : t.blind = true → t.state = .coast ∨ t.state = .handoff
  coasting : t.state = .coast → t.blind = true
  expired : t.coastExpired = true → t.state = .handoff ∧ t.blind = true
  candidate : t.candidate.isSome = decide (t.state = .handoff)
  rivals : t.candidate.isSome = true → t.candidate ≠ t.owner
  searchPoint : t.searchPoint.isSome = decide (t.state = .search)
  pending : ∀ p, t.searchPending.get p = true → t.state = .search

/-- Whether a number fits the signed 32-bit range. -/
def inRange32 (n : Int) : Prop := -2147483648 ≤ n ∧ n ≤ 2147483647

/-- The ranges of a path result (section 1.1, R91): an obstacle step of 1 to 64, if there is one, and a suspect count of at most 64. -/
structure PathResult.InRange (r : PathResult) : Prop where
  obstacle : ∀ k, r.obstacle = some k → 1 ≤ k ∧ k ≤ 64
  suspect : r.suspect ≤ 64

/-- The ranges of section 1.1: coordinates signed 32-bit, velocity components at most 4,000,000 µm/s, outlier_run at most 15, and the
path result's; the fields of a fixed width have their range by their type. -/
structure Track.InRange (t : Track) : Prop where
  position : inRange32 t.position.x ∧ inRange32 t.position.y ∧ inRange32 t.position.z
  velocity : t.velocity.within 4000000 = true
  outliers : t.outlierRun ≤ 15
  path : t.pathResult.InRange

/-- The ranges of the parameters (sections 1.5, 2.7, 3.5), which every write clamps into (R187). -/
structure Params.InRange (p : Params) : Prop where
  alpha : 1 ≤ p.alpha ∧ p.alpha ≤ 65535
  beta : p.beta ≤ 65535
  gate : 100 ≤ p.gate ∧ p.gate ≤ 1000000
  outlierLimit : 1 ≤ p.outlierLimit ∧ p.outlierLimit ≤ 15
  gap : 1000 ≤ p.gap ∧ p.gap ≤ 1000000
  lookahead : p.lookahead ≤ 200000
  suspectLimit : 1 ≤ p.suspectLimit ∧ p.suspectLimit ≤ 15
  outputInterval : 1000 ≤ p.outputInterval ∧ p.outputInterval ≤ 1000000
  queryInterval : 5000 ≤ p.queryInterval ∧ p.queryInterval ≤ 500000
  bearingMaxAge : 5000 ≤ p.bearingMaxAge ∧ p.bearingMaxAge ≤ 1000000
  handoffTimeout : 10000 ≤ p.handoffTimeout ∧ p.handoffTimeout ≤ 1000000
  handoffGate : 100 ≤ p.handoffGate ∧ p.handoffGate ≤ 1000000
  holdOff : p.holdOff ≤ 5000000
  coastTime : p.coastTime ≤ 2000000
  searchTime : 100000 ≤ p.searchTime ∧ p.searchTime ≤ 30000000
  searchRadius : 1000 ≤ p.searchRadius ∧ p.searchRadius ≤ 5000000

/-- R167: records produced since the last reset equal records written, dropped and held, modulo 2^32. -/
def Engine.Conserves (e : Engine) : Prop := e.produced = e.written + e.dropped + BitVec.ofNat 32 e.fifo.length

/-- R166: the FIFO holds at most sixteen records. -/
def Engine.FifoBounded (e : Engine) : Prop := e.fifo.length ≤ 16

/-- R130 and R131: an ingest queue never holds more than its OUTSTANDING setting, which is 1 to 3; R133: the query queue holds at most
one request per station. -/
structure Xfu.Bounded (x : Xfu) : Prop where
  outstanding : ∀ p, 1 ≤ x.outstanding.get p ∧ x.outstanding.get p ≤ 3
  ingest : ∀ p, (x.ingest.get p).length ≤ x.outstanding.get p
  queries : (x.queryQueue.map (·.station)).Nodup

/-- The track, the parameters, the transform unit's queues and the path scan results not yet handed back, each within its ranges. -/
structure Device.RangesHold (d : Device) : Prop where
  track : d.track.InRange
  params : d.params.InRange
  xfu : d.xfu.Bounded
  scans : ∀ s ∈ d.smu.scans, ∀ r, s.result = some r → r.InRange

/-- Where a notice condition holds, its flag is set (R183, R185). -/
def Device.ConditionsShown (d : Device) : Prop := d.conditions &&& ~~~d.notices.flags = 0

/-- The orders among the frames of a control queue. -/
def LinkPort.orders (l : LinkPort) : Nat := l.control.countP OutFrame.isOrder

/-- The RELEASE frames of a control queue. -/
def LinkPort.releases (l : LinkPort) : Nat := l.control.countP OutFrame.isRelease

/-- The PASS frames of a control queue. -/
def LinkPort.passes (l : LinkPort) : Nat := l.control.countP OutFrame.isPass

/-- A port beside its station: DOWN exactly where the station is ABSENT (section 7.2), with nothing waiting or in flight while DOWN
(R146), and a control queue of at most one order, one RELEASE and two PASS frames (R28, R160); an order waits only for a station
that holds a role (R28). -/
structure Device.LinkAgrees (d : Device) (p : Port) : Prop where
  down : (d.ports.get p).state = .down ↔ d.stationState p = .absent
  quietDown : (d.ports.get p).state = .down →
    (d.ports.get p).control = [] ∧ (d.ports.get p).slot = none ∧ (d.ports.get p).sending = .idle ∧
      (d.ports.get p).idreqPending = false ∧ (d.ports.get p).answers = [] ∧ (d.ports.get p).inFrame = none
  orders : (d.ports.get p).orders ≤ 1
  releases : (d.ports.get p).releases ≤ 1
  passes : (d.ports.get p).passes ≤ 2
  kinds : ∀ f ∈ (d.ports.get p).control, f.isOrder || f.isRelease || f.isPass
  role : (d.ports.get p).orders = 0 ∨ d.stationState p = .taking ∨ d.stationState p = .searching

/-- The frame a receiving half collects holds fewer than twenty-nine data characters (R148), the training count is below eight
(R147), the receiving half collects only in ACCEPTING, and no more characters of a frame have gone out than it has (R145). -/
structure LinkPort.Framing (l : LinkPort) : Prop where
  training : l.training < 8
  collected : ∀ chars, l.inFrame = some chars → l.state = .accepting ∧ (dataBytes chars).length < 29
  sent : ∀ f n, l.sending = .sending f n → n ≤ f.chars.length

/-- The engine's own order (section 8.2): a buffer is open only in RUNNING and beside a current descriptor; a record write goes to an open
buffer with a record held, a completion writeback follows a closed one (R177), a re-read is in flight only in STARVED (R179); a pending
flush counts at least one record, in FETCHING or RUNNING; a DISABLED engine holds none; an action is held only during a write. -/
structure Engine.Ordered (e : Engine) : Prop where
  buffer : e.bufferOpen = true → e.state = .running ∧ e.current.isSome = true
  writing : ∀ a b l, e.access = some (.recordWrite a b l) → e.bufferOpen = true ∧ e.fifo ≠ []
  closing : ∀ u x a b l, e.access = some (.writeback u x a b l) → e.bufferOpen = false
  rereading : ∀ a b g, e.access = some (.reread a b g) → e.state = .starved
  flushing : ∀ n, e.flush = some n → (e.state = .fetching ∨ e.state = .running) ∧ 0 < n ∧ n ≤ e.fifo.length
  disabled : e.state = .disabled → e.fifo = []
  held : e.held.isSome = true → e.writeInFlight = true

/-- The ranges of a map command's parameters (R93). -/
def MapCommand.InRange (c : MapCommand) : Prop :=
  match c with
  | .fill _ column row width height _ => column < 512 ∧ 1 ≤ width ∧ width ≤ 512 ∧ 1 ≤ height ∧ row + height ≤ 128
  | .copy _ sourceColumn sourceRow _ column row width height _ _ =>
    sourceColumn < 512 ∧ column < 512 ∧ 1 ≤ width ∧ width ≤ 512 ∧ 1 ≤ height ∧ sourceRow + height ≤ 128 ∧ row + height ≤ 128
  | .line _ column row count columnStep rowStep _ =>
    column < 512 ∧ row < 128 ∧ 1 ≤ count ∧ count ≤ 512 ∧ columnStep.natAbs ≤ 8 ∧ rowStep.natAbs ≤ 8 ∧
      ¬ (columnStep = 0 ∧ rowStep = 0)
  | .run _ column row _ _ limit => column < 512 ∧ row < 128 ∧ 1 ≤ limit ∧ limit ≤ 512
  | .clear _ => True

/-- A running map command: its parameters in their ranges (R93), and a cell still to visit (R94, R95). -/
structure RunningCommand.Runs (c : RunningCommand) : Prop where
  inRange : c.command.InRange
  unfinished : c.command.finished c.visited = false

/-- The maps: the cells in their one form within the four maps, a sweep that stands at one of them, and a running command with a cell
of them still to visit. -/
structure Smu.Kept (m : Smu) : Prop where
  wellFormed : cellsWellFormed m.cells = true
  inside : ∀ c ∈ m.cells, c.1 < Config.allCells
  sweep : ∀ a, m.sweep = some a → a < Config.allCells
  idle : m.sweep.isSome = true → m.running = none
  running : ∀ c, m.running = some c → c.Runs

/-- R118, R120, R121: an answer of a bearing record stands only beside a query, and so does a lookup asked for and not forgotten. -/
structure Device.BearingsAgree (d : Device) : Prop where
  answered : ∀ p, (d.stations.get p).answer.isSome = true → (d.stations.get p).query.isSome = true
  asked : ∀ l ∈ d.smu.lookups, l.forgotten = false → (d.stations.get l.station).query.isSome = true

/-- Everything the part keeps, together. -/
structure Device.Inv (d : Device) : Prop where
  roles : d.RolesAgree
  follows : d.track.FollowsState
  ranges : d.RangesHold
  conserves : d.engine.Conserves
  bounded : d.engine.FifoBounded
  ordered : d.engine.Ordered
  shown : d.ConditionsShown
  links : ∀ p, d.LinkAgrees p
  framing : ∀ p, (d.ports.get p).Framing
  maps : d.smu.Kept
  bearings : d.BearingsAgree

end Sys2Proof.Machine
end

