-- ==== Sys2Proof/WellFormed.lean ====
section
/-! DEFINITION. When a command's operands are ones its row of the table can carry. The machine runs an ill-formed command too: it is
then another event than the one its row names. -/

namespace Sys2Proof

/-- Whether a character is none of the six controls: a data character, an unassigned control, or a parity error (the row
DATA_CHARACTER). -/
def otherCharacter (c : LineChar) : Bool :=
  match c with
  | .control v => !Machine.isControlCode v
  | _ => true

/-- Whether a character ends a frame: an EOF or a SOF. -/
def endsFrame (c : LineChar) : Bool := decide (c = .control Machine.eofCode) || decide (c = .control Machine.sofCode)

/-- How the last character of a frame ends it (R148): an EOF, a SOF, or else a 29th data character. -/
def frameEndOf (c : LineChar) : Machine.FrameEnd :=
  if c = .control Machine.eofCode then .eof else if c = .control Machine.sofCode then .sof else .overlong

/-- The verdict on the characters of a frame after its SOF, the one that ends it among them (R149, R151). -/
def frameVerdict (chars : List LineChar) : Machine.Verdict :=
  match chars.getLast? with
  | none => .failed .nothing 0
  | some c =>
    if endsFrame c then Machine.judgeFrame chars.dropLast (frameEndOf c) else Machine.judgeFrame chars .overlong

/-- Whether characters are those of one frame that ends in a failed check of R149: a run of other characters, at most 28 of them
data, and then an EOF, a SOF, or a 29th data character. -/
def isCheckFailure (chars : List LineChar) : Bool :=
  match chars.getLast? with
  | none => false
  | some c =>
    (if endsFrame c then
       chars.dropLast.all otherCharacter && decide ((Machine.dataBytes chars.dropLast).length ≤ 28)
     else chars.all otherCharacter && decide ((Machine.dataBytes chars).length = 29) && decide (Machine.charByte c ≠ none)) &&
    (match frameVerdict chars with
     | .failed _ _ => true
     | _ => false)

/-- Whether the data characters of a frame pass R149 and fail a format check of R151. -/
def isFormatFailure (bytes : List Byte) : Bool :=
  match Machine.judgeFrame (bytes.map .data) .eof with
  | .badFormat _ => true
  | _ => false

/-- Whether an offset of the window is that of a word (R186). -/
def wordAligned (offset : BitVec 12) : Bool := decide (offset.toNat % 4 = 0)

/-- The operands of a command are ones its row can carry. -/
def Instr.wellFormed (i : Instr) : Bool :=
  match i with
  | .registerWrite offset _ => wordAligned offset
  | .frameCheckFail _ chars => isCheckFailure chars
  | .formatFail _ kind seq payload => decide (payload.length ≤ 24) && isFormatFailure (Machine.frameBytes kind seq payload)
  | .breakFrame _ _ r => decide (1 ≤ r.reason.toNat) && decide (r.reason.toNat ≤ 3)
  | .bearing _ _ r => decide (r.reach.toNat ≤ 1)
  | .pass _ _ payload => decide (payload.length ≤ 24)
  | .dataCharacter _ c => otherCharacter c
  | .unknownCommandCode code => !Machine.commandCodes.contains code.toNat
  | .hardwareReset | .softReset _ | .arm | .cancel | .handoffTo | .loadTransform | .unloadTransform | .setQuiet | .setLearning
  | .setOutstanding | .mapFill | .mapCopy | .mapLine | .mapRun | .mapClear | .mapAbort | .mapPeek | .passSend | .roeStart
  | .roeFlush | .roeResume | .enable .. | .disable .. | .engineReset .. | .engineControlSettings .. | .pairModeWrite _
  | .trackSnapshot | .rollRead | .rollWrite _ | .noticeFlagClear _ | .noticeMaskWrite _ | .noticeControlWrite _
  | .portFlagClear .. | .busWidthClear | .mailboxRelease .. | .subWordWrite .. | .queryDeadlineExpiry | .outputDeadlineExpiry
  | .handoffDeadlineExpiry | .coastDeadlineExpiry | .searchDeadlineExpiry | .holdOffExpiry _ | .silenceDeadlineExpiry _
  | .answerDeadlineExpiry _ | .idleCharacter _ | .sof _ | .brk _ | .ack _ | .nak _ | .obs .. | .lock .. | .failFrame ..
  | .ident .. | .outboundFrameTake _ | .eofSent _ | .xfuGrant | .xfuCompletion | .learningRequest _ | .pointLookup _
  | .lookupResult _ | .pathScan | .pathScanResult | .mapCellStep | .clearingSweepStep | .recordWriteBegin | .recordWriteEnd _
  | .writebackEnd _ | .descriptorReadEnd _ | .rereadEnd _ | .eof _ => true

end Sys2Proof
end

