-- ==== Sys2Proof/Certificates/Slice0/Obligations.lean ====
section
/-! DEFINITION. The statements of the model, for the provers. A state is written as its part and its queue, ⟨d, q⟩; a conclusion
exec c ⟨d, q⟩ = next ⟨d', q⟩ says that the command completes and what it makes of the part. -/

open Sys2Proof Sys2Proof.Machine

/-! ## The queue and the step -/

/-- The model's own queue (notes/assumptions/1.md): a step takes the command at the front of the queue and runs it on the rest. The model's
own choice (notes/assumptions/2.md): with no command waiting, a step is one microsecond of TB (R3), in which each port puts its next
character on the line (R145): the oldest waiting answer, else the next character of the frame it sends, else IDLE; an EOF stays on the line
until EOF_SENT. -/
def Obligations.StepRunsFrontCommand : Prop :=
  (∀ (c : Instr) (d : Device) (rest : List Instr), step ⟨d, c :: rest⟩ = exec c ⟨d, rest⟩) ∧
  (∀ d : Device,
     let sent : LinkPort → LinkPort := fun l =>
       let ending : Bool := match l.sending with
         | .sending f n => decide (f.chars.length ≤ n)
         | _ => false
       if ending then l
       else match l.answers, l.sending with
         | .ack :: rest, _ => { l with answers := rest, line := .control 0xA3 }
         | .nak :: rest, _ => { l with answers := rest, line := .control 0xA4 }
         | [], .sending f n => { l with sending := .sending f (n + 1), line := f.chars.getD n (.control 0xA5) }
         | [], _ => { l with line := .control 0xA5 }
     step ⟨d, []⟩ = .next ⟨{ d with tb := d.tb + 1, ports := eachPort fun p => sent (d.ports.get p) }, []⟩)

/-- No command stops the machine, and none touches the commands that wait behind it. That commands wait in a queue is the model’s choice
(notes/assumptions/1.md), and so is that an event that is not due answers with the part as it stood (notes/assumptions/4.md). -/
def Obligations.EveryCommandAnswersNext : Prop :=
  ∀ (c : Instr) (d : Device) (q : List Instr), ∃ d' : Device, exec c ⟨d, q⟩ = .next ⟨d', q⟩

/-! ## Resets -/

/-- A hardware reset leaves every block at the values the spec gives (R1, R105, R124, R168, R183, R191 and the other reset rules), whatever
it held, and starts the clearing sweep at the first cell of map 0 (R80). A soft reset leaves the part as a hardware reset does, but for
LAST_RESET and, with KEEP_SURVEY, the transform records and the sight maps: the records are kept (R124), and no sweep starts unless one was
running, which starts again (R81, R190, R191). Values the spec does not state word for word are inferred (notes/assumptions/26.md). -/
def Obligations.ResetsRestoreValues : Prop :=
  (∀ (d : Device) (q : List Instr), ∃ d' : Device, exec .hardwareReset ⟨d, q⟩ = .next ⟨d', q⟩ ∧
     d'.tb = 0 ∧
     d'.track =
       ⟨.idle, none, false, none, ⟨0, 0, 0⟩, ⟨0, 0, 0⟩, 0, none, ⟨none, 0, false⟩, 0, .same false, 3, false, false, none, none,
         .same false, ⟨none, none, none, none, none⟩, 0, ⟨0, 0, 0, 0, 0, 0, 0, 0, 0⟩, ⟨none, none, 0⟩, .same none,
         ⟨⟨0, 0, 0⟩, ⟨0, 0, 0⟩, 0, ⟨none, 0, false⟩⟩⟩ ∧
     d'.params =
       ⟨32768, 8192, 50000, 3, 100000, 50000, 2, 10000, 20000, 60000, 150000, 25000, 500000, .fixed, 300000, 5000000, 300000⟩ ∧
     (∀ p, d'.stations.get p =
       ⟨.absent, 0, false, none, true, none, none, 0, ⟨[], false⟩, ⟨0, 0, 0, 0, 0⟩, none, none⟩) ∧
     d'.roll = ⟨0, none⟩ ∧
     (∀ p, (d'.xfu.records.get p).loaded = false ∧ (d'.xfu.records.get p).values = ⟨0, 0, 0, 0, 0, 0, 0, 0, 0, 0, 0, 0⟩ ∧
       d'.xfu.ingest.get p = [] ∧ d'.xfu.outstanding.get p = 2) ∧
     d'.xfu.queryQueue = [] ∧ d'.xfu.pointer = .port 0 ∧ d'.xfu.pairFlag = false ∧ d'.xfu.pairMode = false ∧
     d'.xfu.operation = none ∧ d'.xfu.forwardSat = 0 ∧ d'.xfu.inverseSat = 0 ∧ d'.xfu.grantDrops = 0 ∧
     (∀ p, d'.ports.get p =
       ⟨.down, 0, none, none, false, [], false, [], none, .idle, none, .control 0xA5, 0, ⟨false, false, false, false, false, false⟩,
         ⟨.nothing, 0, none, 0⟩, ⟨none, none, none⟩, ⟨0, 0, 0, 0, 0⟩⟩) ∧
     d'.smu.sweep = some 0 ∧ d'.smu.running = none ∧ d'.smu.status = ⟨.nothing, .nothing, 0, 0, .nothing, 0⟩ ∧
     (∀ p, d'.smu.latches.get p = none ∧ d'.smu.learnReplaced.get p = 0) ∧ d'.smu.peek = ⟨0, 0, 0⟩ ∧
     d'.smu.learnQueue = [] ∧ d'.smu.lookups = [] ∧ d'.smu.scans = [] ∧
     d'.engine =
       ⟨.disabled, false, [], 0, 0, 0, ⟨false, 0, 12, 0⟩, ⟨false, 0, 12, 0⟩, false, false, none, 0, none, 0, none, none, none⟩ ∧
     d'.notices = ⟨0, 0x3FFF, false⟩ ∧
     d'.sbi.status = ⟨0, .nothing, .nothing⟩ ∧ d'.sbi.parameters = ⟨0, 0, 0, 0, 0, 0, 0, 0⟩ ∧
     d'.sbi.staging = ⟨0, 0, 0, 0, 0, 0, 0, 0, 0, 0, 0, 0⟩ ∧ d'.sbi.busWidth = false ∧ d'.sbi.lastReset = .hardware) ∧
  (∀ (keep : Bool) (d : Device) (q : List Instr), ∃ r : Device, exec .hardwareReset ⟨d, q⟩ = .next ⟨r, q⟩ ∧
     exec (.softReset keep) ⟨d, q⟩ = .next
       ⟨{ r with
           xfu := { r.xfu with records := if keep then d.xfu.records else r.xfu.records }
           smu := { r.smu with sweep := if keep = true ∧ d.smu.sweep = none then none else some 0 }
           sbi := { r.sbi with lastReset := if keep then .softKeep else .soft } }, q⟩)

/-! ## What every step keeps -/

/-- The machine right after reset keeps every law of Safety.lean. -/
def Obligations.ResetMeetsInvariant : Prop :=
  State.reset.device.Inv

/-- Every step keeps the roles of R27: the OWNER station is the one the owner field names, the owner field is present exactly in TRACKING,
HANDOFF and COAST, a TAKING station is the candidate of a HANDOFF, and stations search only in ACQUIRE and SEARCH. -/
def Obligations.RolesKept : Prop :=
  ∀ s t : State, step s = .next t → s.device.RolesAgree → t.device.RolesAgree

/-- Every step keeps the ties between the track state and the fields that come and go with it: the five deadlines, blind, coast_expired, the
candidate, the search point and search_pending (R21, R36, R54, R55, R59, R68, R69, R75). -/
def Obligations.TrackFieldsFollowState : Prop :=
  ∀ s t : State, step s = .next t → s.device.RolesAgree → s.device.track.FollowsState → t.device.track.FollowsState

/-- Every step conserves records: those produced since the last reset equal those written, those dropped and those held, each modulo 2^32
(R167), and the FIFO never holds more than sixteen (R166). -/
def Obligations.RecordsConserved : Prop :=
  ∀ s t : State, step s = .next t → s.device.engine.Conserves → s.device.engine.FifoBounded →
    t.device.engine.Conserves ∧ t.device.engine.FifoBounded

/-- Every step keeps the engine's order: a buffer is open only in RUNNING, a record write in flight goes to an open buffer with a record
held, a completion writeback in flight follows a closed one, a re-read is in flight only in STARVED, a pending flush counts records the FIFO
holds, a DISABLED engine holds none, and an action is held only while a write is in flight (R166, R170, R171, R176 to R179). -/
def Obligations.EngineOrderKept : Prop :=
  ∀ s t : State, step s = .next t → s.device.engine.Ordered → t.device.engine.Ordered

/-- Every step keeps each port beside its station: DOWN exactly where the station is ABSENT, nothing waiting in DOWN, and a control queue of
at most one order, one RELEASE and two PASS frames, an order only for a station that holds a role (R28, R146, R160); its training count
below eight (R147), and its partial frames, in and out, as far as a frame goes (R145, R148). -/
def Obligations.LinksKept : Prop :=
  ∀ s t : State, step s = .next t → s.device.RolesAgree → s.device.track.FollowsState →
    (∀ p, s.device.LinkAgrees p ∧ (s.device.ports.get p).Framing) →
    ∀ p, t.device.LinkAgrees p ∧ (t.device.ports.get p).Framing

/-- Every step keeps the four maps in their one form, so that equal maps are equal lists, within the 262,144 cells of the part, and a
clearing sweep at one of them with no map command running; a running command has its parameters in their ranges and a cell still to visit
(R78, R80, R93, R94, R95). The list is the model’s own form of the maps (notes/assumptions/3.md). -/
def Obligations.MapsKept : Prop :=
  ∀ s t : State, step s = .next t → s.device.smu.Kept → t.device.smu.Kept

/-- Every step keeps the flag of a source set while its condition holds: a port REFUSING, the engine HALTED or STARVED (R183, R185). -/
def Obligations.NoticeConditionsShown : Prop :=
  ∀ s t : State, step s = .next t → s.device.ConditionsShown → t.device.ConditionsShown

/-- Every step keeps the track within the ranges of section 1.1 (position, velocity, outlier_run, path_result), the parameters within theirs
(R187), and the transform unit's queues within theirs: at most OUTSTANDING entries per port, OUTSTANDING in 1..3, at most one request per
station (R14, R130, R131, R133). The path scan results on their way to the track stand within the ranges of R91. -/
def Obligations.RangesKept : Prop :=
  ∀ s t : State, step s = .next t → s.device.RangesHold → t.device.RangesHold

/-- Every step keeps an answer of a bearing record beside a query, and so each point lookup that its station has not forgotten: a station
that grades above STALE has a query point for its TAKE (R38, R42, R118, R120, R121). -/
def Obligations.BearingsKept : Prop :=
  ∀ s t : State, step s = .next t → s.device.BearingsAgree → t.device.BearingsAgree

/-! ## Shared operations -/

/-- Rounding to nearest, halves away from zero (R4): no other quotient is nearer, and at a tie the result is the one farther from zero. The
transforms, before saturation, are the exact sums of R126 and R128 over 2^30, within half a unit: the forward transform takes the rows of
the matrix, the inverse its columns, on the point minus the translation. -/
def Obligations.ArithmeticRounds : Prop :=
  (∀ n d : Int, 0 < d →
     2 * (roundDiv n d * d - n).natAbs ≤ d.natAbs ∧
     (2 * (roundDiv n d * d - n).natAbs = d.natAbs → n.natAbs < (roundDiv n d * d).natAbs)) ∧
  (∀ (v : TransformValues) (p : Vec3),
     let f := v.forward p
     let i := v.inverse p
     let q : Vec3 := ⟨p.x - v.tx.toInt, p.y - v.ty.toInt, p.z - v.tz.toInt⟩
     let close := fun result exact : Int => 2 * (result * 1073741824 - exact).natAbs ≤ 1073741824
     close f.x (v.m11.toInt * p.x + v.m12.toInt * p.y + v.m13.toInt * p.z + v.tx.toInt * 1073741824) ∧
     close f.y (v.m21.toInt * p.x + v.m22.toInt * p.y + v.m23.toInt * p.z + v.ty.toInt * 1073741824) ∧
     close f.z (v.m31.toInt * p.x + v.m32.toInt * p.y + v.m33.toInt * p.z + v.tz.toInt * 1073741824) ∧
     close i.x (v.m11.toInt * q.x + v.m21.toInt * q.y + v.m31.toInt * q.z) ∧
     close i.y (v.m12.toInt * q.x + v.m22.toInt * q.y + v.m32.toInt * q.z) ∧
     close i.z (v.m13.toInt * q.x + v.m23.toInt * q.y + v.m33.toInt * q.z))

/-- A change of track state (R26): the new state; the query deadline present in TRACKING, HANDOFF and COAST, started at now where it was
absent (R36); the output deadline ended by IDLE, SEARCH and LOST (R21); one EVENT record with the fields of R23 and the next sequence
number, given to the engine (R25, R166); and the TRACK_STATE notice. A produced record joins the FIFO at the back, or is dropped where the
engine is DISABLED or sixteen wait; produced counts it either way, and nothing else of the engine changes (R166, R167). What the state and
flags of the record show is the model’s inference (notes/assumptions/16.md); that the EVENT of an ARM or a CANCEL steps record_seq like any
other is its choice (notes/assumptions/30.md). -/
def Obligations.ChangeOfStateRecorded : Prop :=
  (∀ (d : Device) (after : TrackState) (sat : Bool),
     d.changeState after sat =
       { d with
         track := { d.track with
           state := after
           recordSeq := d.track.recordSeq + 1
           deadlines := { d.track.deadlines with
             query := if after.owned then (if d.track.state.owned then d.track.deadlines.query else some d.tb) else none
             output := if after = .idle ∨ after = .search ∨ after = .lost then none else d.track.deadlines.output } }
         engine := d.engine.join
           { seq := d.track.recordSeq, kind := .event, source := portByte d.track.owner, time := d.tb,
             position := d.track.position,
             velocity := ⟨roundDiv d.track.velocity.x 1000, roundDiv d.track.velocity.y 1000, roundDiv d.track.velocity.z 1000⟩,
             residual := d.track.state.code,
             flags := ⟨sat, false, false, d.track.blind, d.track.pathResult.longPath, d.track.noCandidate⟩,
             state := after, last := portByte d.track.candidate }
         notices := { d.notices with flags := d.notices.flags ||| 0x80 } }) ∧
  (∀ (e : Engine) (r : Record),
     ((e.state = .disabled ∨ 16 ≤ e.fifo.length) → e.join r = { e with produced := e.produced + 1, dropped := e.dropped + 1 }) ∧
     ((e.state ≠ .disabled ∧ e.fifo.length < 16) → e.join r = { e with produced := e.produced + 1, fifo := e.fifo ++ [r] }))

/-- The grade of a station (R38), by the first line that applies: INELIGIBLE by its state, quiet setting, transform or port, or as the
owner; HELD under hold-off; STALE with no answer, or with one older than BEARING_MAX_AGE, an answer of exactly that age being not yet STALE;
BARRED by the reach flag or a BLOCKED or FIXED_BLOCKED cell; POOR by SUSPECT; FAIR by UNKNOWN; GOOD by CLEAR or FIXED_CLEAR. The automatic
choice (R39): a GOOD station if there is one, else a FAIR one, else none; under FIXED the lowest port of that grade, under ROTATING the
first of it after last_take_port, round to last_take_port itself. -/
def Obligations.ChoiceTakesBestStation : Prop :=
  (∀ (d : Device) (p : Port),
     let s := d.stations.get p
     d.grade p =
       if s.state ≠ .standby ∨ s.quiet = true ∨ (d.xfu.records.get p).loaded = false ∨ (d.ports.get p).state ≠ .accepting ∨
           d.track.owner = some p then .ineligible
       else if s.holdOff ≠ none then .held
       else match s.answer with
         | none => .stale
         | some a =>
           if (d.params.bearingMaxAge : Int) < (d.tb - a.time).toInt then .stale
           else if a.reach = false then .barred
           else match a.cell with
             | .blocked | .fixedBlocked => .barred
             | .suspect => .poor
             | .unknown => .fair
             | .clear | .fixedClear => .good) ∧
  (∀ d : Device,
     let best : Grade := if ∃ p, d.grade p = .good then .good else .fair
     let place : Port → Nat := fun p =>
       match d.params.tieMode with
       | .fixed => p.val
       | .rotating => (p - d.track.lastTakePort - 1).val
     match d.choose with
     | some c => d.grade c = best ∧ ∀ p, d.grade p = best → place c ≤ place p
     | none => ∀ p, d.grade p ≠ .good ∧ d.grade p ≠ .fair)

/-- The consequences of a failed take (R47): the candidate in STANDBY, or still ABSENT, under hold-off; its order withdrawn; no candidate
and no handoff deadline; the failure counted, recorded and noticed; and the next state by blind and coast_expired. -/
def Obligations.TakeFails : Prop :=
  ∀ (d : Device) (c : Port) (reason : FailReason),
    let failed : Device :=
      { d with
        stations := d.stations.set c { d.stations.get c with
          state := if d.stationState c = .absent then .absent else .standby
          holdOff := some (d.tb + BitVec.ofNat 32 d.params.holdOff) }
        ports := d.ports.set c (d.ports.get c).endOrder
        track := { d.track with
          candidate := none
          coastExpired := false
          deadlines := { d.track.deadlines with handoff := none }
          counters := { d.track.counters with handoffsFailed := countUp d.track.counters.handoffsFailed }
          failure := ⟨some reason, some c, d.tb⟩
          currentOrder := d.track.currentOrder.set c none }
        notices := { d.notices with flags := d.notices.flags ||| 0x20 } }
    d.failTake c reason =
      if d.track.blind = false then failed.changeState .tracking false
      else if d.track.coastExpired then failed.enterSearch
      else failed.changeState .coast false

/-- Entry into SEARCH (R68): the search point frozen at the prediction for now, the owner standing down without a RELEASE, the deadlines and
flags of the search, a search request and a place in search_pending for every eligible station, the change of state, and then the end check
(R72). Entry into LOST (R75): no search and no deadline left, the change of state, the TRACK_LOST notice, and, with FLUSH_ON_LOST, a flush
of the engine after it. The end check of a search (R72) enters LOST where no station is SEARCHING and search_pending is empty. Which state
the first of two EVENT records of one event shows is the model’s choice (notes/assumptions/27.md). -/
def Obligations.SearchAndLossEntered : Prop :=
  (∀ d : Device,
     let point := (d.track.predict d.tb).saturate32
     let owns := fun p => decide (d.track.owner = some p)
     let frozen : Device :=
       { d with
         stations := eachPort fun p =>
           if owns p then { d.stations.get p with state := if d.stationState p = .absent then .absent else .standby }
           else d.stations.get p
         ports := eachPort fun p => if owns p then (d.ports.get p).endOrder else d.ports.get p
         track := { d.track with
           owner := none
           searchPoint := some point
           blind := false
           coastExpired := false
           noCandidate := false
           deadlines := ⟨none, none, some (d.tb + BitVec.ofNat 32 d.params.searchTime), none, none⟩
           currentOrder := eachPort fun p => if owns p then none else d.track.currentOrder.get p } }
     let placed : Device :=
       { frozen with
         xfu := (allPorts.filter frozen.eligible).foldl (fun x p => x.placeInverse ⟨p, .search, point⟩) d.xfu
         track := { frozen.track with searchPending := eachPort frozen.eligible } }
     d.enterSearch = (placed.changeState .search false).endCheck) ∧
  (∀ d : Device,
     (let cleared : Device :=
        { d with track := { d.track with searchPending := ⟨false, false, false, false⟩, searchPoint := none,
                                         deadlines := ⟨none, none, none, none, none⟩ } }
      let lost : Device := (cleared.changeState .lost false).raise .trackLost
      d.enterLost = if d.engine.flushOnLost then lost.flush else lost) ∧
     ((∃ p, d.stationState p = .searching ∨ d.track.searchPending.get p = true) → d.endCheck = d) ∧
     ((∀ p, d.stationState p ≠ .searching ∧ d.track.searchPending.get p = false) → d.endCheck = d.enterLost))

/-! ## The command register -/

/-- A write of the command register is the command its bits 7:0 name, by the table of R189; a code that is none of the eighteen is refused
with VALUE and changes only the command status (R188). While a ROE_START is held, every command, and every write of the command register
whatever its code, is refused with BUSY and changes only the command status (R188). That a register write is its command is the model’s
arrangement (notes/assumptions/11.md). -/
def Obligations.CommandRegisterDispatches : Prop :=
  ((∀ code c, (code, c) ∈ commandTable → ∀ (w : Word) (s : State), w.extractLsb' 0 8 = code →
     exec (.registerWrite 0x004 w) s = exec c s) ∧
   (∀ (code : Byte) (d : Device) (q : List Instr), d.engine.startHeld = false → (∀ e ∈ commandTable, e.1 ≠ code) →
     exec (.unknownCommandCode code) ⟨d, q⟩ = .next ⟨d.setStatus code .refused .value, q⟩ ∧
     ∀ w : Word, w.extractLsb' 0 8 = code →
       exec (.registerWrite 0x004 w) ⟨d, q⟩ = .next ⟨d.setStatus code .refused .value, q⟩)) ∧
  (∀ (d : Device) (q : List Instr), d.engine.startHeld = true →
     let busy : Byte → Host.Outcome State Fault Refusal := fun code =>
       .next ⟨{ d with sbi := { d.sbi with status := ⟨code, .refused, .busy⟩ } }, q⟩
     (∀ code c, (code, c) ∈ commandTable → exec c ⟨d, q⟩ = busy code) ∧
     (∀ code : Byte, exec (.unknownCommandCode code) ⟨d, q⟩ = busy code ∧
       ∀ w : Word, w.extractLsb' 0 8 = code → exec (.registerWrite 0x004 w) ⟨d, q⟩ = busy code))

/-- ARM (R31): taken in IDLE or LOST with an eligible station in the mask. Each eligible station of the mask is sent SEARCH with no point
and is SEARCHING, and the track enters ACQUIRE; any other ARM is refused with STATE. That the EVENT of an ARM steps record_seq (R25), which
R1 says ARM leaves, is the model’s choice (notes/assumptions/30.md), and so is that bit n of the mask names port n
(notes/assumptions/31.md). -/
def Obligations.ArmStartsAcquire : Prop :=
  ∀ (d : Device) (q : List Instr), d.engine.startHeld = false →
    let sent : Port → Bool := fun p => d.sbi.parameters.p0.getLsbD p.val && d.eligible p
    let ready := (d.track.state = .idle ∨ d.track.state = .lost) ∧ ∃ p, sent p = true
    (ready →
      exec .arm ⟨d, q⟩ = .next ⟨(Device.changeState
        { d with
          stations := eachPort fun p => if sent p then { d.stations.get p with state := .searching } else d.stations.get p
          ports := eachPort fun p =>
            if sent p then { d.ports.get p with control := (d.ports.get p).control ++ [.search none] } else d.ports.get p
          track := { d.track with
            acquireMask := eachPort fun p => d.sbi.parameters.p0.getLsbD p.val
            latePort := none
            coastExpired := false
            noCandidate := false
            currentOrder := eachPort fun p => if sent p then some .search else d.track.currentOrder.get p
            deadlines := { d.track.deadlines with search := some (d.tb + BitVec.ofNat 32 d.params.searchTime) } } }
        .acquire false).setStatus 0x01 .done .nothing, q⟩) ∧
    (¬ ready → exec .arm ⟨d, q⟩ = .next ⟨d.setStatus 0x01 .refused .state, q⟩)

/-- CANCEL (R56): in every state but IDLE each station the ownership fields name, and each SEARCHING one, is released CANCELLED, the
ownership and search fields and the deadlines are emptied, and the track enters IDLE; in IDLE nothing changes but the status. That the EVENT
of a CANCEL steps record_seq (R25), which R1 and R56 say CANCEL leaves, is the model’s choice (notes/assumptions/30.md). -/
def Obligations.CancelReturnsToIdle : Prop :=
  ∀ (d : Device) (q : List Instr), d.engine.startHeld = false →
    let freed : Port → Bool := fun p =>
      decide (d.track.owner = some p) || decide (d.track.candidate = some p) || decide (d.stationState p = .searching)
    (d.track.state ≠ .idle →
      exec .cancel ⟨d, q⟩ = .next ⟨(Device.changeState
        { d with
          stations := eachPort fun p =>
            if freed p then { d.stations.get p with state := if d.stationState p = .absent then .absent else .standby }
            else d.stations.get p
          ports := eachPort fun p =>
            if freed p then
              (if d.stationState p = .absent then d.ports.get p else (d.ports.get p).placeRelease .cancelled).endOrder
            else d.ports.get p
          track := { d.track with
            owner := none
            candidate := none
            latePort := none
            searchPoint := none
            searchPending := ⟨false, false, false, false⟩
            blind := false
            coastExpired := false
            noCandidate := false
            deadlines := ⟨none, none, none, none, none⟩
            currentOrder := eachPort fun p => if freed p then none else d.track.currentOrder.get p } }
        .idle false).setStatus 0x02 .done .nothing, q⟩) ∧
    (d.track.state = .idle → exec .cancel ⟨d, q⟩ = .next ⟨d.setStatus 0x02 .done .nothing, q⟩)

/-- HANDOFF_TO (R43) starts a handoff (R42) with a station that grades GOOD, FAIR, POOR or BARRED in TRACKING: the TAKE carries the query
point of its bearing record. A port outside 0 to 3 is refused with RANGE, every other case with STATE. That a bad port is refused with RANGE
in every track state is the model’s choice (notes/assumptions/28.md). -/
def Obligations.HandoffToStartsTake : Prop :=
  ∀ (d : Device) (q : List Instr), d.engine.startHeld = false →
    (∀ c : Port, d.sbi.parameters.p0.toNat = c.val → d.track.state = .tracking →
      d.grade c ∈ [Grade.good, .fair, .poor, .barred] → ∀ k : BearingQuery, (d.stations.get c).query = some k →
      exec .handoffTo ⟨d, q⟩ = .next ⟨(Device.changeState
        { d with
          stations := d.stations.set c { d.stations.get c with state := .taking }
          ports := d.ports.set c { d.ports.get c with control := (d.ports.get c).control ++ [.take k.point] }
          track := { d.track with
            candidate := some c
            lastTakePort := c
            latePort := if d.track.latePort = some c then none else d.track.latePort
            noCandidate := false
            currentOrder := d.track.currentOrder.set c (some .take)
            deadlines := { d.track.deadlines with handoff := some (d.tb + BitVec.ofNat 32 d.params.handoffTimeout) } } }
        .handoff false).setStatus 0x03 .done .nothing, q⟩) ∧
    (3 < d.sbi.parameters.p0.toNat → exec .handoffTo ⟨d, q⟩ = .next ⟨d.setStatus 0x03 .refused .range, q⟩) ∧
    (∀ c : Port, d.sbi.parameters.p0.toNat = c.val →
      (d.track.state ≠ .tracking ∨ d.grade c ∈ [Grade.ineligible, .held, .stale]) →
      exec .handoffTo ⟨d, q⟩ = .next ⟨d.setStatus 0x03 .refused .state, q⟩)

/-- LOAD_TRANSFORM and UNLOAD_TRANSFORM (R112, R113, R124): the transform record, transform_gen, the station's state, the bearing record and
the marks on its lookups; a loaded station may join an acquire search (R32), an unloaded one leaves search_pending (R72). A port outside 0
to 3 is refused with RANGE, a station that holds a role or is named by the owner field with STATE. That only an event that makes the station
eligible lets it join is the model’s inference (notes/assumptions/19.md). -/
def Obligations.TransformsLoadedAndUnloaded : Prop :=
  ∀ (d : Device) (q : List Instr), d.engine.startHeld = false →
    let changed : Port → Bool → StationState → Device := fun p loaded state =>
      { d with
        xfu := { d.xfu with
          records := d.xfu.records.set p ⟨loaded, if loaded then d.sbi.staging else (d.xfu.records.get p).values⟩ }
        stations := d.stations.set p { d.stations.get p with
          transformGen := (d.stations.get p).transformGen + 1, state := state, query := none, answer := none }
        smu := { d.smu with
          lookups := d.smu.lookups.map fun l => if l.station = p then { l with forgotten := true } else l } }
    (∀ p : Port, d.sbi.parameters.p0.toNat = p.val →
      d.stationState p ∈ [StationState.absent, .unconfigured, .standby] → d.track.owner ≠ some p →
      (let after := changed p true (if d.stationState p = .absent then .absent else .standby)
       exec .loadTransform ⟨d, q⟩ = .next ⟨
        (if d.track.state = .acquire ∧ d.track.acquireMask.get p = true ∧ d.eligible p = false ∧ after.eligible p = true
         then after.sendSearch p none else after).setStatus 0x10 .done .nothing, q⟩) ∧
      (let after := changed p false (if d.stationState p = .absent then .absent else .unconfigured)
       exec .unloadTransform ⟨d, q⟩ = .next ⟨
        (if d.hasTransform p = false then d
         else if d.track.state = .search ∧ d.track.searchPending.get p = true then
          Device.endCheck
            { after with track := { d.track with searchPending := d.track.searchPending.set p false } }
         else after).setStatus 0x11 .done .nothing, q⟩)) ∧
    (∀ p : Port, d.sbi.parameters.p0.toNat = p.val →
      (d.stationState p ∈ [StationState.owner, .taking, .searching] ∨ d.track.owner = some p) →
      exec .loadTransform ⟨d, q⟩ = .next ⟨d.setStatus 0x10 .refused .state, q⟩ ∧
      exec .unloadTransform ⟨d, q⟩ = .next ⟨d.setStatus 0x11 .refused .state, q⟩) ∧
    (3 < d.sbi.parameters.p0.toNat →
      exec .loadTransform ⟨d, q⟩ = .next ⟨d.setStatus 0x10 .refused .range, q⟩ ∧
      exec .unloadTransform ⟨d, q⟩ = .next ⟨d.setStatus 0x11 .refused .range, q⟩)

/-- SET_QUIET and SET_LEARNING (R115, R116): a port outside 0 to 3 is refused with RANGE, then a value other than 0 and 1 with VALUE. The
learning setting is stored at once. The quiet setting takes effect at once with no frame in flight, is held in quiet_pending otherwise, and
changes nothing where it is the setting in effect with none pending. In effect, on empties the query slot, and off may let the station join
an acquire search (R32). SET_OUTSTANDING (R131): a port outside 0 to 3 or a limit outside 1 to 3 is refused with RANGE; a taken one sets the
limit and loses the oldest entries beyond it, counted in superseded. That the station is judged before the value is the model’s choice
(notes/assumptions/28.md). That only an event that makes the station eligible lets it join is the model’s inference
(notes/assumptions/19.md). -/
def Obligations.SettingsTaken : Prop :=
  (∀ (d : Device) (q : List Instr), d.engine.startHeld = false →
     (∀ (p : Port) (v : Bool), d.sbi.parameters.p0.toNat = p.val → d.sbi.parameters.p1 = (if v then 1 else 0) →
       exec .setLearning ⟨d, q⟩ = .next ⟨Device.setStatus
         { d with stations := d.stations.set p { d.stations.get p with learning := v } } 0x13 .done .nothing, q⟩ ∧
       exec .setQuiet ⟨d, q⟩ = .next ⟨
         (if (d.stations.get p).quiet = v ∧ (d.stations.get p).quietPending = none then d
          else if (d.ports.get p).sending = .idle then d.setQuiet p v
          else { d with stations := d.stations.set p { d.stations.get p with quietPending := some v } }).setStatus
           0x12 .done .nothing, q⟩) ∧
     (3 < d.sbi.parameters.p0.toNat →
       exec .setLearning ⟨d, q⟩ = .next ⟨d.setStatus 0x13 .refused .range, q⟩ ∧
       exec .setQuiet ⟨d, q⟩ = .next ⟨d.setStatus 0x12 .refused .range, q⟩) ∧
     (d.sbi.parameters.p0.toNat ≤ 3 → 1 < d.sbi.parameters.p1.toNat →
       exec .setLearning ⟨d, q⟩ = .next ⟨d.setStatus 0x13 .refused .value, q⟩ ∧
       exec .setQuiet ⟨d, q⟩ = .next ⟨d.setStatus 0x12 .refused .value, q⟩) ∧
     (∀ p : Port,
       d.setQuiet p true =
         { d with stations := d.stations.set p { d.stations.get p with quiet := true, quietPending := none }
                  ports := d.ports.set p { d.ports.get p with slot := none } } ∧
       (let after : Device :=
          { d with stations := d.stations.set p { d.stations.get p with quiet := false, quietPending := none } }
        d.setQuiet p false =
          if d.track.state = .acquire ∧ d.track.acquireMask.get p = true ∧ d.eligible p = false ∧ after.eligible p = true
          then after.sendSearch p none else after))) ∧
  (∀ (d : Device) (q : List Instr), d.engine.startHeld = false →
     let limit := d.sbi.parameters.p1.toNat
     (∀ p : Port, d.sbi.parameters.p0.toNat = p.val → 1 ≤ limit → limit ≤ 3 →
       let lost := (d.xfu.ingest.get p).length - limit
       exec .setOutstanding ⟨d, q⟩ = .next ⟨Device.setStatus
         { d with
           xfu := { d.xfu with outstanding := d.xfu.outstanding.set p limit
                               ingest := d.xfu.ingest.set p ((d.xfu.ingest.get p).drop lost) }
           stations := d.stations.set p { d.stations.get p with
             counters := { (d.stations.get p).counters with
               superseded := BitVec.ofNat 16 (min ((d.stations.get p).counters.superseded.toNat + lost) 65535) } } }
         0x14 .done .nothing, q⟩) ∧
     ((3 < d.sbi.parameters.p0.toNat ∨ limit = 0 ∨ 3 < limit) →
       exec .setOutstanding ⟨d, q⟩ = .next ⟨d.setStatus 0x14 .refused .range, q⟩))

/-- PASS_SEND (R161): RANGE, then STATE for a port in DOWN, then FULL where two host frames wait; a taken one, in ACCEPTING or REFUSING,
puts a PASS frame with the first length bytes of P2 to P7, lowest byte first, at the back of the control queue, and nothing else changes but
the command status. -/
def Obligations.PassSent : Prop :=
  ∀ (d : Device) (q : List Instr), d.engine.startHeld = false →
    let w := d.sbi.parameters
    let length := w.p1.toNat
    let payload : List Byte := (List.range length).map fun i =>
      ((([w.p2, w.p3, w.p4, w.p5, w.p6, w.p7] : List Word).getD (i / 4) 0) >>> (8 * (i % 4))).setWidth 8
    ((3 < w.p0.toNat ∨ 24 < length) → exec .passSend ⟨d, q⟩ = .next ⟨d.setStatus 0x30 .refused .range, q⟩) ∧
    (∀ p : Port, w.p0.toNat = p.val → length ≤ 24 →
      let l := d.ports.get p
      (l.state = .down → exec .passSend ⟨d, q⟩ = .next ⟨d.setStatus 0x30 .refused .state, q⟩) ∧
      (l.state ≠ .down → 2 ≤ l.passes → exec .passSend ⟨d, q⟩ = .next ⟨d.setStatus 0x30 .refused .full, q⟩) ∧
      (l.state ≠ .down → l.passes < 2 →
        exec .passSend ⟨d, q⟩ = .next ⟨Device.setStatus
          { d with ports := d.ports.set p { l with control := l.control ++ [.pass payload] } } 0x30 .done .nothing, q⟩))

/-! ## The sight maps -/

/-- The five map commands are accepted with parameters in range and good codes (R93, R94): the command runs with no cell visited, and the
map status starts again. The refusals of R93, in their order: BUSY while a map command or the clearing sweep runs, RANGE for a parameter out
of range, then VALUE for a bad state, order or direction code; nothing changes but the command status. -/
def Obligations.MapCommandsJudged : Prop :=
  (∀ (d : Device) (q : List Instr), d.engine.startHeld = false → d.smu.running = none → d.smu.sweep = none →
     let w := d.sbi.parameters
     let accepted : Byte → MapCommand → MapKind → Host.Outcome State Fault Refusal := fun code c kind =>
       .next ⟨Device.setStatus
         { d with smu := { d.smu with running := some ⟨c, 0⟩, status := ⟨kind, .running, 0, 0, .nothing, 0⟩ } }
         code .done .nothing, q⟩
     (∀ (p : Port) (v : CellState), w.p0.toNat = p.val → w.p5.toNat = v.code → w.p1.toNat < 512 → w.p2.toNat < 128 →
       1 ≤ w.p3.toNat → w.p3.toNat ≤ 512 → 1 ≤ w.p4.toNat → w.p4.toNat ≤ 128 → w.p2.toNat + w.p4.toNat ≤ 128 →
       exec .mapFill ⟨d, q⟩ = accepted 0x20 (.fill p w.p1.toNat w.p2.toNat w.p3.toNat w.p4.toNat v) .fill) ∧
     (∀ (s t : Port) (columnsDown rowsDown : Bool), w.p0.toNat = s.val → w.p3.toNat = t.val →
       w.p7.toNat = columnsDown.toNat + 65536 * rowsDown.toNat → w.p1.toNat < 512 → w.p2.toNat < 128 → w.p4.toNat < 512 →
       w.p5.toNat < 128 → 1 ≤ w.p6.toNat % 65536 → w.p6.toNat % 65536 ≤ 512 → 1 ≤ w.p6.toNat / 65536 →
       w.p6.toNat / 65536 ≤ 128 → w.p2.toNat + w.p6.toNat / 65536 ≤ 128 → w.p5.toNat + w.p6.toNat / 65536 ≤ 128 →
       exec .mapCopy ⟨d, q⟩ = accepted 0x21 (.copy s w.p1.toNat w.p2.toNat t w.p4.toNat w.p5.toNat (w.p6.toNat % 65536)
         (w.p6.toNat / 65536) columnsDown rowsDown) .copy) ∧
     (∀ (p : Port) (v : CellState), w.p0.toNat = p.val → w.p6.toNat = v.code → w.p1.toNat < 512 → w.p2.toNat < 128 →
       1 ≤ w.p3.toNat → w.p3.toNat ≤ 512 → -8 ≤ w.p4.toInt → w.p4.toInt ≤ 8 → -8 ≤ w.p5.toInt → w.p5.toInt ≤ 8 →
       ¬ (w.p4 = 0 ∧ w.p5 = 0) →
       exec .mapLine ⟨d, q⟩ = accepted 0x22 (.line p w.p1.toNat w.p2.toNat w.p3.toNat w.p4.toInt w.p5.toInt v) .line) ∧
     (∀ (p : Port) (left : Bool) (v : CellState), w.p0.toNat = p.val → w.p3.toNat = left.toNat → w.p4.toNat = v.code →
       w.p1.toNat < 512 → w.p2.toNat < 128 → 1 ≤ w.p5.toNat → w.p5.toNat ≤ 512 →
       exec .mapRun ⟨d, q⟩ = accepted 0x23 (.run p w.p1.toNat w.p2.toNat left v w.p5.toNat) .run) ∧
     (∀ p : Port, w.p0.toNat = p.val → exec .mapClear ⟨d, q⟩ = accepted 0x24 (.clear (some p)) .clear) ∧
     (w.p0.toNat = 4 → exec .mapClear ⟨d, q⟩ = accepted 0x24 (.clear none) .clear)) ∧
  (∀ (d : Device) (q : List Instr), d.engine.startHeld = false →
     let w := d.sbi.parameters
     let refused : Byte → RefusalReason → Host.Outcome State Fault Refusal := fun code reason =>
       .next ⟨d.setStatus code .refused reason, q⟩
     ((d.smu.running.isSome ∨ d.smu.sweep.isSome) →
       exec .mapFill ⟨d, q⟩ = refused 0x20 .busy ∧ exec .mapCopy ⟨d, q⟩ = refused 0x21 .busy ∧
       exec .mapLine ⟨d, q⟩ = refused 0x22 .busy ∧ exec .mapRun ⟨d, q⟩ = refused 0x23 .busy ∧
       exec .mapClear ⟨d, q⟩ = refused 0x24 .busy) ∧
     (d.smu.running = none → d.smu.sweep = none →
       (let good := w.p0.toNat < 4 ∧ w.p1.toNat < 512 ∧ w.p2.toNat < 128 ∧ 1 ≤ w.p3.toNat ∧ w.p3.toNat ≤ 512 ∧
          1 ≤ w.p4.toNat ∧ w.p4.toNat ≤ 128 ∧ w.p2.toNat + w.p4.toNat ≤ 128
        (¬ good → exec .mapFill ⟨d, q⟩ = refused 0x20 .range) ∧
        (good → 5 < w.p5.toNat → exec .mapFill ⟨d, q⟩ = refused 0x20 .value)) ∧
       (let width := w.p6.toNat % 65536
        let height := w.p6.toNat / 65536
        let good := w.p0.toNat < 4 ∧ w.p3.toNat < 4 ∧ w.p1.toNat < 512 ∧ w.p2.toNat < 128 ∧ w.p4.toNat < 512 ∧
          w.p5.toNat < 128 ∧ 1 ≤ width ∧ width ≤ 512 ∧ 1 ≤ height ∧ height ≤ 128 ∧ w.p2.toNat + height ≤ 128 ∧
          w.p5.toNat + height ≤ 128
        (¬ good → exec .mapCopy ⟨d, q⟩ = refused 0x21 .range) ∧
        (good → (1 < w.p7.toNat % 65536 ∨ 1 < w.p7.toNat / 65536) → exec .mapCopy ⟨d, q⟩ = refused 0x21 .value)) ∧
       (let good := w.p0.toNat < 4 ∧ w.p1.toNat < 512 ∧ w.p2.toNat < 128 ∧ 1 ≤ w.p3.toNat ∧ w.p3.toNat ≤ 512 ∧
          -8 ≤ w.p4.toInt ∧ w.p4.toInt ≤ 8 ∧ -8 ≤ w.p5.toInt ∧ w.p5.toInt ≤ 8 ∧ ¬ (w.p4 = 0 ∧ w.p5 = 0)
        (¬ good → exec .mapLine ⟨d, q⟩ = refused 0x22 .range) ∧
        (good → 5 < w.p6.toNat → exec .mapLine ⟨d, q⟩ = refused 0x22 .value)) ∧
       (let good := w.p0.toNat < 4 ∧ w.p1.toNat < 512 ∧ w.p2.toNat < 128 ∧ 1 ≤ w.p5.toNat ∧ w.p5.toNat ≤ 512
        (¬ good → exec .mapRun ⟨d, q⟩ = refused 0x23 .range) ∧
        (good → (1 < w.p3.toNat ∨ 5 < w.p4.toNat) → exec .mapRun ⟨d, q⟩ = refused 0x23 .value)) ∧
       (4 < w.p0.toNat → exec .mapClear ⟨d, q⟩ = refused 0x24 .range)))

/-- One cell step of the running command (R94): it visits the cell its count stands at, and ends DONE by R95 in the event of its last cell.
MAP_FILL writes its state, row by row (R96). MAP_COPY writes what the source cell holds at this step, rows and columns in their orders (R97,
R98). MAP_LINE writes its state, and ends as well where its next row leaves the map (R99). MAP_CLEAR writes UNKNOWN in cell-index order
(R101). Each writes one cell and counts it. MAP_RUN compares one cell and writes none; it ends at a cell that differs, or at its limit, with
the stop column of that cell (R100). An end clears the running command, applies the learn latches of the maps it held in port order (R86)
and raises MAP_DONE. With no command running there is no cell step. MAP_ABORT (R102) ends the running command ABORTED by R95: the status
keeps its counts, a run records its stop column (R100), the learn latches of the maps the command held are applied in port order and emptied
(R86), and MAP_DONE is raised. With no command running it is refused with STATE. Where nothing is waiting, under way or due, the event
changes nothing: the model’s choice (notes/assumptions/4.md). The live run count is its inference (notes/assumptions/22.md). -/
def Obligations.MapCellStepsAndEnds : Prop :=
  (∀ (d : Device) (q : List Instr),
     (∀ c : RunningCommand, d.smu.running = some c →
       let k := c.visited
       let cells := d.smu.cells
       let visited : Smu → Bool → Device := fun m last =>
         if last then
           { d with
             smu := (allPorts.filter c.command.holds).foldl Smu.applyLatch
               { m with running := none, status := { m.status with result := .done } }
             notices := { d.notices with flags := d.notices.flags ||| 0x800 } }
         else { d with smu := { m with running := some ⟨c.command, k + 1⟩ } }
       let wrote : Nat → CellState → Bool → Host.Outcome State Fault Refusal := fun a v last =>
         .next ⟨visited
           { d.smu with
             cells := writeCell cells a v
             status := { d.smu.status with cellsWritten := d.smu.status.cellsWritten + 1 } } last, q⟩
       (∀ p column row width height v, c.command = .fill p column row width height v →
         exec .mapCellStep ⟨d, q⟩ =
           wrote (65536 * p.val + (row + k / width) * 512 + (column + k % width) % 512) v (decide (width * height ≤ k + 1))) ∧
       (∀ s sc sr t dc dr width height columnsDown rowsDown,
         c.command = .copy s sc sr t dc dr width height columnsDown rowsDown →
         let i := if columnsDown then width - 1 - k % width else k % width
         let j := if rowsDown then height - 1 - k / width else k / width
         exec .mapCellStep ⟨d, q⟩ =
           wrote (65536 * t.val + (dr + j) * 512 + (dc + i) % 512)
             (readCell cells (65536 * s.val + (sr + j) * 512 + (sc + i) % 512)) (decide (width * height ≤ k + 1))) ∧
       (∀ p column row count columnStep rowStep v, c.command = .line p column row count columnStep rowStep v →
         let here : Int := (column + k * columnStep) % 512
         let next : Int := row + (k + 1) * rowStep
         exec .mapCellStep ⟨d, q⟩ =
           wrote (65536 * p.val + (row + k * rowStep).toNat * 512 + here.toNat) v
             (decide (count ≤ k + 1) || decide (next < 0) || decide (127 < next))) ∧
       (∀ p, c.command = .clear (some p) →
         exec .mapCellStep ⟨d, q⟩ = wrote (65536 * p.val + k) .unknown (decide (65536 ≤ k + 1))) ∧
       (c.command = .clear none → exec .mapCellStep ⟨d, q⟩ = wrote k .unknown (decide (262144 ≤ k + 1))) ∧
       (∀ p column row left v limit, c.command = .run p column row left v limit →
         let here := (((column : Int) + k * (if left then -1 else 1)) % 512).toNat
         let ran : Nat → RunStop → Nat → Smu := fun count stop at_ =>
           { d.smu with status := { d.smu.status with
               runCount := d.smu.status.runCount + count, runStop := stop, runStopColumn := at_ } }
         exec .mapCellStep ⟨d, q⟩ = .next
           ⟨if readCell cells (65536 * p.val + row * 512 + here) ≠ v then visited (ran 0 .different here) true
            else if limit ≤ k + 1 then visited (ran 1 .limit here) true
            else visited (ran 1 d.smu.status.runStop d.smu.status.runStopColumn) false, q⟩)) ∧
     (d.smu.running = none → exec .mapCellStep ⟨d, q⟩ = .next ⟨d, q⟩) ∧
     (∀ (c : MapCommand) (p : Port), c.holds p = true ↔
       match c with
       | .fill s .. => s = p
       | .copy s _ _ t .. => s = p ∨ t = p
       | .line s .. => s = p
       | .run s .. => s = p
       | .clear (some s) => s = p
       | .clear none => True)) ∧
  (∀ (d : Device) (q : List Instr), d.engine.startHeld = false →
     (∀ c : RunningCommand, d.smu.running = some c →
       let stop : Nat := match c.command with
         | .run _ column _ left _ _ =>
           if c.visited = 0 then column
           else (((column : Int) + (if left then -1 else 1) * ((c.visited : Int) - 1)) % 512).toNat
         | _ => d.smu.status.runStopColumn
       let ended : Smu :=
         { d.smu with running := none, status := { d.smu.status with result := .aborted, runStopColumn := stop } }
       exec .mapAbort ⟨d, q⟩ = .next ⟨Device.setStatus
         { d with smu := (allPorts.filter c.command.holds).foldl Smu.applyLatch ended
                  notices := { d.notices with flags := d.notices.flags ||| 0x800 } } 0x25 .done .nothing, q⟩) ∧
     (d.smu.running = none → exec .mapAbort ⟨d, q⟩ = .next ⟨d.setStatus 0x25 .refused .state, q⟩) ∧
     (∀ (m : Smu) (p : Port),
       m.applyLatch p =
         match m.latches.get p with
         | none => m
         | some r => { m.learn r with latches := m.latches.set p none }))

/-- A MAP_FILL taken to its end (R94, R95, R96): after width × height cell steps every cell of the rectangle holds the state, columns taken
modulo 512, and every other cell what it held; the status reads DONE with the cells counted, and MAP_DONE is raised. No learning waits in
the map's latch. -/
def Obligations.MapFillWritesRectangle : Prop :=
  ∀ (d : Device) (p : Port) (c r w h : Nat) (v : CellState), d.smu.Kept →
    d.smu.running = some ⟨.fill p c r w h v, 0⟩ → d.smu.latches.get p = none →
    c < 512 → 1 ≤ w → w ≤ 512 → 1 ≤ h → r + h ≤ 128 →
    let cell : Nat → Nat → Nat := fun i j => 65536 * p.val + (r + j) * 512 + (c + i) % 512
    ∃ cells : List (Nat × CellState),
      Sys2Proof.core.run (w * h) (State.mk d (List.replicate (w * h) .mapCellStep)) = .next (State.mk
        { d with
          smu := { d.smu with
            cells := cells
            running := none
            status := { d.smu.status with result := .done, cellsWritten := d.smu.status.cellsWritten + w * h } }
          notices := { d.notices with flags := d.notices.flags ||| 0x800 } } []) ∧
      (∀ i j, i < w → j < h → readCell cells (cell i j) = v) ∧
      (∀ a, (∀ i j, i < w → j < h → a ≠ cell i j) → readCell cells a = readCell d.smu.cells a)

/-- The clearing sweep taken to its end (R80): after a step for each of the 262,144 cells every cell holds UNKNOWN and the sweep is over;
one step clears one cell, and with no sweep running a step changes nothing. That the cells are then the empty list is the model’s own form
of the maps (notes/assumptions/3.md). Where nothing is waiting, under way or due, the event changes nothing: the model’s choice
(notes/assumptions/4.md). -/
def Obligations.SweepClearsEveryCell : Prop :=
  (∀ d : Device, d.smu.Kept → d.smu.sweep = some 0 →
    Sys2Proof.core.run 262144 (State.mk d (List.replicate 262144 .clearingSweepStep)) =
      .next (State.mk { d with smu := { d.smu with cells := [], sweep := none } } [])) ∧
  (∀ (d : Device) (q : List Instr) (a : Nat), d.smu.sweep = some a →
    exec .clearingSweepStep ⟨d, q⟩ = .next
      ⟨{ d with smu := { d.smu with cells := writeCell d.smu.cells a .unknown
                                    sweep := if a = 262143 ∨ 262143 < a then none else some (a + 1) } }, q⟩) ∧
  (∀ (d : Device) (q : List Instr), d.smu.sweep = none → exec .clearingSweepStep ⟨d, q⟩ = .next ⟨d, q⟩)

/-- A learning request reaches the sight map unit (R83, R84, R85): discarded during the sweep, with learning off, or off the map; held in
its station's learn latch while a command holds the map, a held one lost and counted; otherwise applied to its cell by the table of R84.
Where nothing is waiting, under way or due, the event changes nothing: the model’s choice (notes/assumptions/4.md). The queue of requests
per source is the model’s (notes/assumptions/14.md). -/
def Obligations.LearningChangesCell : Prop :=
  (∀ (d : Device) (q : List Instr) (before after : List LearnRequest) (r : LearnRequest),
    d.smu.learnQueue = before ++ r :: after → (∀ o ∈ before, o.source ≠ r.source) →
    let row := (r.el.toInt + 8192) / 128
    let a := 65536 * r.station.val + row.toNat * 512 + r.az.toNat / 128
    let taken : Smu := { d.smu with learnQueue := before ++ after }
    exec (.learningRequest r.source) ⟨d, q⟩ = .next
      ⟨{ d with smu :=
          if d.smu.sweep.isSome = true ∨ (d.stations.get r.station).learning = false ∨ row < 0 ∨ 128 ≤ row then taken
          else if d.smu.held r.station then
            { taken with
              latches := d.smu.latches.set r.station (some r)
              learnReplaced :=
                if d.smu.latches.get r.station = none then d.smu.learnReplaced
                else d.smu.learnReplaced.set r.station (countUp (d.smu.learnReplaced.get r.station)) }
          else { taken with cells := writeCell d.smu.cells a (r.event.apply (readCell d.smu.cells a)) } }, q⟩) ∧
  (∀ (d : Device) (q : List Instr) (source : LearnSource), (∀ r ∈ d.smu.learnQueue, r.source ≠ source) →
    exec (.learningRequest source) ⟨d, q⟩ = .next ⟨d, q⟩) ∧
  (∀ c : CellState,
    LearnEvent.apply .seen c =
      (match c with
       | .unknown | .clear | .suspect => .clear | .blocked => .suspect
       | .fixedClear => .fixedClear | .fixedBlocked => .fixedBlocked) ∧
    LearnEvent.apply .lost c =
      (match c with
       | .unknown | .clear => .suspect | .suspect | .blocked => .blocked
       | .fixedClear => .fixedClear | .fixedBlocked => .fixedBlocked) ∧
    LearnEvent.apply .failedTake c = LearnEvent.apply .lost c)

/-- Every command but a cell step and a sweep step leaves each FIXED_CLEAR and each FIXED_BLOCKED cell as it was (R84): learning, lookups,
scans, resets and every register write among them. A cell changes only at a cell step, a sweep step, a learning request, or a MAP_ABORT,
which applies the latched learning (R80, R84, R86, R94): every other command leaves every cell of the four maps as it was. That a hardware
reset, and a soft reset without KEEP_SURVEY, leave the cells as they were until the sweep is the model’s choice (notes/assumptions/3.md):
R80 says that it cannot be observed. -/
def Obligations.CellsChangeOnlyByTheirCommands : Prop :=
  (∀ (c : Instr) (d d' : Device) (q : List Instr), d.smu.Kept → c ≠ .mapCellStep → c ≠ .clearingSweepStep →
     exec c ⟨d, q⟩ = .next ⟨d', q⟩ →
     ∀ a, (readCell d.smu.cells a = .fixedClear ∨ readCell d.smu.cells a = .fixedBlocked) →
       readCell d'.smu.cells a = readCell d.smu.cells a) ∧
  (∀ (c : Instr) (d d' : Device) (q : List Instr),
     c ≠ .mapCellStep → c ≠ .clearingSweepStep → (∀ s, c ≠ .learningRequest s) → c ≠ .mapAbort → c ≠ .unknownCommandCode 0x25 →
     (∀ w : Word, w.extractLsb' 0 8 = 0x25 → c ≠ .registerWrite 0x004 w) →
     exec c ⟨d, q⟩ = .next ⟨d', q⟩ → d'.smu.cells = d.smu.cells)

/-- Point lookups (R88, R118, R120): a lookup reads its cell as it stands, UNKNOWN during the sweep and off the map; its result, returned in
the order asked, becomes the answer of the bearing record with the fields held since the BEARING, unless the station has forgotten it. Where
nothing is waiting, under way or due, the event changes nothing: the model’s choice (notes/assumptions/4.md). The queue of lookups is the
model’s (notes/assumptions/14.md). -/
def Obligations.LookupsStoreCellState : Prop :=
  (∀ (d : Device) (q : List Instr) (p : Port) (before after : List Lookup) (l : Lookup),
    d.smu.lookups = before ++ l :: after → l.station = p →
    (l.result = none → (∀ o ∈ before, o.station = p → o.result ≠ none) →
      let row := (l.el.toInt + 8192) / 128
      let cell : CellState :=
        if d.smu.sweep.isSome = true ∨ row < 0 ∨ 128 ≤ row then .unknown
        else readCell d.smu.cells (65536 * p.val + row.toNat * 512 + l.az.toNat / 128)
      exec (.pointLookup p) ⟨d, q⟩ = .next
        ⟨{ d with smu := { d.smu with lookups := before ++ { l with result := some cell } :: after } }, q⟩) ∧
    (∀ cell, l.result = some cell → (∀ o ∈ before, o.station ≠ p) →
      exec (.lookupResult p) ⟨d, q⟩ = .next
        ⟨{ d with
            smu := { d.smu with lookups := before ++ after }
            stations :=
              if l.forgotten then d.stations
              else d.stations.set p
                { d.stations.get p with answer := some ⟨l.tag, l.reach, l.az, l.el, cell, l.time⟩ } }, q⟩)) ∧
  (∀ (d : Device) (q : List Instr) (p : Port),
    ((∀ l ∈ d.smu.lookups, l.station = p → l.result ≠ none) → exec (.pointLookup p) ⟨d, q⟩ = .next ⟨d, q⟩) ∧
    ((∀ l ∈ d.smu.lookups.find? (fun l => decide (l.station = p)), l.result = none) →
      exec (.lookupResult p) ⟨d, q⟩ = .next ⟨d, q⟩))

/-- A path scan (R89, R90, R91): with the start row on the map and no sweep running, the scan examines the steps from 1 to the smaller of n
and 64, as far as the first step off the map and the first BLOCKED or FIXED_BLOCKED cell. The obstacle step is that cell's, the suspect
count is the number of SUSPECT cells among the steps examined, and the long-path flag says that n is above 64. A path scan with its start
row off the map, or taken during the clearing sweep, examines no cell (R80, R89): no obstacle, suspect count 0; the long-path flag is clear
off the map, and during the sweep says that the path has more than 64 steps. With no scan waiting nothing changes. Where nothing is waiting,
under way or due, the event changes nothing: the model’s choice (notes/assumptions/4.md). The queue of scans is the model’s
(notes/assumptions/14.md). -/
def Obligations.ScanFindsFirstObstacle : Prop :=
  (∀ (d : Device) (q : List Instr) (before after : List Scan) (s : Scan),
     d.smu.scans = before ++ s :: after → (∀ o ∈ before, o.result ≠ none) → s.result = none → d.smu.sweep = none →
     let c0 : Int := s.startAz.toNat / 128
     let c1 : Int := s.endAz.toNat / 128
     let r0 : Int := (s.startEl.toInt + 8192) / 128
     let r1 : Int := (s.endEl.toInt + 8192) / 128
     let dc : Int := (c1 - c0 + 256) % 512 - 256
     let dr : Int := r1 - r0
     let n : Nat := max dc.natAbs dr.natAbs
     let row : Nat → Int := fun k => r0 + roundDiv (k * dr) n
     let column : Nat → Int := fun k => (c0 + roundDiv (k * dc) n) % 512
     let cell : Nat → CellState := fun k =>
       readCell d.smu.cells (65536 * s.port.val + (row k).toNat * 512 + (column k).toNat)
     let blocked : Nat → Prop := fun k => cell k = .blocked ∨ cell k = .fixedBlocked
     let examined : Nat → Prop := fun k =>
       1 ≤ k ∧ k ≤ n ∧ k ≤ 64 ∧ (∀ j, 1 ≤ j → j ≤ k → 0 ≤ row j ∧ row j ≤ 127) ∧ (∀ j, 1 ≤ j → j < k → ¬ blocked j)
     0 ≤ r0 → r0 ≤ 127 →
     ∃ result : PathResult,
       exec .pathScan ⟨d, q⟩ = .next
         ⟨{ d with smu := { d.smu with scans := before ++ { s with result := some result } :: after } }, q⟩ ∧
       (∀ k, result.obstacle = some k ↔ examined k ∧ blocked k) ∧
       result.suspect = Set.ncard { k | examined k ∧ cell k = .suspect } ∧
       (result.longPath = true ↔ 64 < n)) ∧
  ((∀ (d : Device) (q : List Instr) (before after : List Scan) (s : Scan),
     d.smu.scans = before ++ s :: after → (∀ o ∈ before, o.result ≠ none) → s.result = none →
     let r0 : Int := (s.startEl.toInt + 8192) / 128
     (r0 < 0 ∨ 127 < r0 ∨ d.smu.sweep.isSome = true) →
     exec .pathScan ⟨d, q⟩ = .next
       ⟨{ d with smu := { d.smu with scans :=
           before ++
             { s with result := some ⟨none, 0, decide (0 ≤ r0) && decide (r0 ≤ 127) && decide (64 < s.steps)⟩ } :: after } }, q⟩) ∧
   (∀ (d : Device) (q : List Instr), (∀ s ∈ d.smu.scans, s.result ≠ none) → exec .pathScan ⟨d, q⟩ = .next ⟨d, q⟩))

/-- A path scan result reaches the track unit (R20, R40): written while TRACKING or HANDOFF, sighted, from the owner's map, and discarded
otherwise. In TRACKING a predicted break (an obstacle, or SUSPECT_LIMIT suspects) starts a handoff with the automatic choice or sets
no_candidate, and any other result clears no_candidate. With no scan result waiting nothing changes. Where nothing is waiting, under way or
due, the event changes nothing: the model’s choice (notes/assumptions/4.md). -/
def Obligations.PathResultsAct : Prop :=
  (∀ (d : Device) (q : List Instr) (s : Scan) (rest : List Scan) (r : PathResult),
    d.smu.scans = s :: rest → s.result = some r →
    let taken : Device := { d with smu := { d.smu with scans := rest } }
    let kept : Device := { taken with track := { d.track with pathResult := r } }
    exec .pathScanResult ⟨d, q⟩ = .next
      ⟨if (d.track.state = .tracking ∨ d.track.state = .handoff) ∧ d.track.blind = false ∧ d.track.owner = some s.port then
         (if d.track.state = .handoff then kept
          else if r.obstacle ≠ none ∨ d.params.suspectLimit ≤ r.suspect then
            (match d.choose with
             | some c => kept.startHandoff c
             | none => { kept with track := { kept.track with noCandidate := true } })
          else { kept with track := { kept.track with noCandidate := false } })
       else taken, q⟩) ∧
  (∀ (d : Device) (q : List Instr), (∀ s ∈ d.smu.scans.head?, s.result = none) →
    exec .pathScanResult ⟨d, q⟩ = .next ⟨d, q⟩)

/-! ## The register window and the notices -/

/-- A write of a register that keeps its value (R187, R194): it reads back as written, clamped into range where it has one, and no other
word of the window changes but SOURCE under a mask and the peek data under a selector. The dispatch of a register write is the model’s
arrangement (notes/assumptions/11.md). -/
def Obligations.RegistersStore : Prop :=
  ∀ o f, (o, f) ∈ storedRegisters → ∀ (d : Device) (q : List Instr) (w : Word),
    ∃ d' : Device, exec (.registerWrite o w) ⟨d, q⟩ = .next ⟨d', q⟩ ∧
      d'.readWord o = f w ∧
      (∀ o' : BitVec 12, o'.toNat / 4 ≠ o.toNat / 4 → ¬ (o = 0x014 ∧ o'.toNat / 4 = 7) → ¬ (o = 0x754 ∧ o'.toNat / 4 = 0x1D6) →
        d'.readWord o' = d.readWord o') ∧
      d' = { d with
        params := d'.params
        sbi := { d.sbi with parameters := d'.sbi.parameters, staging := d'.sbi.staging }
        notices := { d.notices with mask := d'.notices.mask, enabled := d'.notices.enabled }
        smu := { d.smu with peek := d'.smu.peek }
        engine := { d.engine with window0 := d'.engine.window0, window1 := d'.engine.window1 } }

/-- A write of a register with an action is that action (R185, R190, R191, R111, R137, R123, R154, R169). A write of any other offset of the
window, read-only, unused or not that of a word, is discarded (R186). A write narrower than 32 bits is discarded and sets BUS_WIDTH, which a
write of 1 to it clears (R186, R191). A write of a port's flag word clears the sticky flags written 1 and no other (R154); a write of a
mailbox's release word, of any value, empties the mailbox (R123). The dispatch of a register write is the model’s arrangement
(notes/assumptions/11.md), and a narrow write to any address sets BUS_WIDTH by inference (notes/assumptions/13.md). -/
def Obligations.RegisterWritesAct : Prop :=
  (∀ (w : Word) (s : State),
     exec (.registerWrite 0x000 w) s = (if w.getLsbD 0 then exec .busWidthClear s else .next s) ∧
     exec (.registerWrite 0x00C w) s = (if w.getLsbD 0 then exec (.softReset (w.getLsbD 1)) s else .next s) ∧
     exec (.registerWrite 0x010 w) s = exec (.noticeFlagClear w) s ∧
     exec (.registerWrite 0x014 w) s = exec (.noticeMaskWrite w) s ∧
     exec (.registerWrite 0x018 w) s = exec (.noticeControlWrite w) s ∧
     exec (.registerWrite 0x024 w) s = exec (.rollWrite w) s ∧
     exec (.registerWrite 0x248 w) s = exec (.pairModeWrite w) s ∧
     (∀ p : Port, exec (.registerWrite (BitVec.ofNat 12 (0x41C + 0x20 * p.val)) w) s = exec (.mailboxRelease p w) s ∧
       exec (.registerWrite (BitVec.ofNat 12 (0x488 + 0x20 * p.val)) w) s = exec (.portFlagClear p w) s) ∧
     exec (.registerWrite 0x780 w) s =
       (if w.getLsbD 2 then exec (.engineReset (w.getLsbD 8) (w.getLsbD 9)) s
        else if w.getLsbD 1 then exec (.disable (w.getLsbD 8) (w.getLsbD 9)) s
        else if w.getLsbD 0 then exec (.enable (w.getLsbD 8) (w.getLsbD 9)) s
        else exec (.engineControlSettings (w.getLsbD 8) (w.getLsbD 9)) s)) ∧
  (∀ (d : Device) (q : List Instr) (o : BitVec 12) (w : Word),
     (o ∉ storedRegisters.map Prod.fst → o ∉ actingRegisters → exec (.registerWrite o w) ⟨d, q⟩ = .next ⟨d, q⟩) ∧
     exec (.subWordWrite o w) ⟨d, q⟩ = .next ⟨{ d with sbi := { d.sbi with busWidth := true } }, q⟩ ∧
     exec .busWidthClear ⟨d, q⟩ = .next ⟨{ d with sbi := { d.sbi with busWidth := false } }, q⟩) ∧
  (∀ (d : Device) (q : List Instr) (p : Port) (w : Word),
     let f := (d.ports.get p).flags
     exec (.portFlagClear p w) ⟨d, q⟩ = .next
       ⟨{ d with ports := d.ports.set p { d.ports.get p with flags :=
           ⟨f.parity && !w.getLsbD 0, f.check && !w.getLsbD 1, f.format && !w.getLsbD 2, f.passOverrun && !w.getLsbD 3,
            f.releaseLost && !w.getLsbD 4, f.passLost && !w.getLsbD 5⟩ } }, q⟩ ∧
     exec (.mailboxRelease p w) ⟨d, q⟩ = .next
       ⟨{ d with stations := d.stations.set p { d.stations.get p with mailbox := ⟨[], false⟩ } }, q⟩)

/-- TRACK_SNAPSHOT and MAP_PEEK (R2, R103): the first returns state, owner, candidate and blind and keeps the filter's words, the second
returns the selected cell's state code, UNKNOWN during the sweep; neither changes anything else. The roll call (R111): a read takes the
first present station at or after the cursor into the roll entry and moves the cursor past it, or takes NONE and the cursor 4; a write, of
any value, restarts it. Where the word read is kept is the model’s choice (notes/assumptions/24.md). -/
def Obligations.ReadsWithEffects : Prop :=
  (∀ (d : Device) (q : List Instr),
     (∃ w : Word,
       exec .trackSnapshot ⟨d, q⟩ = .next
         ⟨{ d with
             track := { d.track with
               snapshot := ⟨d.track.position, d.track.velocity, d.track.lastUpdate, d.track.pathResult⟩ }
             sbi := { d.sbi with readData := w } }, q⟩ ∧
       (w.extractLsb' 0 4).toNat = d.track.state.code ∧
       (w.extractLsb' 4 4).toNat = (match d.track.owner with | some p => p.val | none => 15) ∧
       (w.extractLsb' 8 4).toNat = (match d.track.candidate with | some p => p.val | none => 15) ∧
       (w.extractLsb' 12 20).toNat = d.track.blind.toNat) ∧
     (let k := d.smu.peek
      let cell : CellState :=
        if d.smu.sweep.isSome then .unknown
        else readCell d.smu.cells (65536 * k.station.val + k.row.toNat * 512 + k.column.toNat)
      exec .mapPeek ⟨d, q⟩ = .next ⟨{ d with sbi := { d.sbi with readData := BitVec.ofNat 32 cell.code } }, q⟩)) ∧
  (∀ (d : Device) (q : List Instr),
     let present : Port → Bool := fun p =>
       decide (d.stationState p ≠ .absent) && (d.stations.get p).identity.isSome && decide (d.roll.cursor ≤ p.val)
     (∀ p : Port, present p = true → (∀ j : Port, j < p → present j = false) →
       ∀ i : Identity, (d.stations.get p).identity = some i →
       exec .rollRead ⟨d, q⟩ = .next
         ⟨{ d with roll := ⟨p.val + 1, some (p, i)⟩
                   sbi := { d.sbi with readData := BitVec.ofNat 32 (p.val + 65536 * i.maker.toNat) } }, q⟩) ∧
     ((∀ p : Port, present p = false) →
       exec .rollRead ⟨d, q⟩ = .next ⟨{ d with roll := ⟨4, none⟩, sbi := { d.sbi with readData := 0xFF } }, q⟩) ∧
     (∀ w : Word, exec (.rollWrite w) ⟨d, q⟩ = .next ⟨{ d with roll := ⟨0, none⟩ }, q⟩))

/-- A write of the notice flag word (R185): a bit written 1 leaves its flag set exactly where its source's condition holds (a port REFUSING,
the engine HALTED or STARVED), a bit written 0 leaves its flag as it stands, bits above 13 do nothing, and nothing but the flags changes. -/
def Obligations.NoticeFlagsCleared : Prop :=
  ∀ (d : Device) (q : List Instr) (w : Word),
    let holds : Nat → Bool := fun n =>
      match n with
      | 0 => decide ((d.ports.get 0).state = .refusing)
      | 1 => decide ((d.ports.get 1).state = .refusing)
      | 2 => decide ((d.ports.get 2).state = .refusing)
      | 3 => decide ((d.ports.get 3).state = .refusing)
      | 8 => decide (d.engine.state = .halted)
      | 10 => decide (d.engine.state = .starved)
      | _ => false
    ∃ flags : BitVec 14,
      exec (.noticeFlagClear w) ⟨d, q⟩ = .next ⟨{ d with notices := { d.notices with flags := flags } }, q⟩ ∧
      ∀ n, n < 14 → flags.getLsbD n = if w.getLsbD n then holds n else d.notices.flags.getLsbD n

/-- The notice mask, the global enable, the notice line and SOURCE (R184): both words are stored whole; the line is active exactly with the
enable on and a flag set whose mask bit is clear; SOURCE is 1 plus the number of the lowest such flag, 0 with none, and a write to it is
discarded. -/
def Obligations.NoticeLineFollows : Prop :=
  ∀ (d : Device) (q : List Instr) (w : Word),
    exec (.noticeMaskWrite w) ⟨d, q⟩ = .next ⟨{ d with notices := { d.notices with mask := w.setWidth 14 } }, q⟩ ∧
    exec (.noticeControlWrite w) ⟨d, q⟩ = .next ⟨{ d with notices := { d.notices with enabled := w.getLsbD 0 } }, q⟩ ∧
    (let shows := fun n => d.notices.flags.getLsbD n = true ∧ d.notices.mask.getLsbD n = false
     (d.notices.line = true ↔ d.notices.enabled = true ∧ ∃ n, n < 14 ∧ shows n) ∧
     (∀ n, n < 14 → shows n → (∀ m, m < n → ¬ shows m) → d.notices.sourceWord = n + 1) ∧
     ((∀ n, n < 14 → ¬ shows n) → d.notices.sourceWord = 0) ∧
     d.readWord 0x01C = BitVec.ofNat 32 d.notices.sourceWord) ∧
    exec (.registerWrite 0x01C w) ⟨d, q⟩ = .next ⟨d, q⟩

/-- PAIR mode (R137): 0 is off and any other value on. A write that turns it off while a pair has begun clears the pair flag and moves the
rotation pointer to the requester after it; any other write changes the mode at most. -/
def Obligations.PairModeWritten : Prop :=
  ∀ (d : Device) (q : List Instr) (w : Word),
    (d.xfu.pairMode = true → w = 0 → d.xfu.pairFlag = true →
      exec (.pairModeWrite w) ⟨d, q⟩ = .next ⟨{ d with xfu := { d.xfu with
        pairMode := false
        pairFlag := false
        pointer := match d.xfu.pointer with
          | .port 0 => .port 1
          | .port 1 => .port 2
          | .port 2 => .port 3
          | .port 3 => .queryQueue
          | .queryQueue => .port 0 } }, q⟩) ∧
    (¬ (d.xfu.pairMode = true ∧ w = 0 ∧ d.xfu.pairFlag = true) →
      exec (.pairModeWrite w) ⟨d, q⟩ = .next ⟨{ d with xfu := { d.xfu with pairMode := decide (w ≠ 0) } }, q⟩)

/-! ## Deadlines -/

/-- A deadline that is absent, or that the time base is not later than, does not expire: the event changes nothing (R3). A station's
hold-off ends (R57), and it alone. That such an event may be sent, and then changes nothing, is the model’s choice (notes/assumptions/4.md).
-/
def Obligations.DeadlinesWaitAndHoldOffEnds : Prop :=
  (∀ (d : Device) (q : List Instr) (p : Port),
     let waits : Option Word → Prop := fun deadline => ∀ t, deadline = some t → (d.tb - t).toInt ≤ 0
     (waits d.track.deadlines.query → exec .queryDeadlineExpiry ⟨d, q⟩ = .next ⟨d, q⟩) ∧
     (waits d.track.deadlines.output → exec .outputDeadlineExpiry ⟨d, q⟩ = .next ⟨d, q⟩) ∧
     (waits d.track.deadlines.handoff → exec .handoffDeadlineExpiry ⟨d, q⟩ = .next ⟨d, q⟩) ∧
     (waits d.track.deadlines.coast → exec .coastDeadlineExpiry ⟨d, q⟩ = .next ⟨d, q⟩) ∧
     (waits d.track.deadlines.search → exec .searchDeadlineExpiry ⟨d, q⟩ = .next ⟨d, q⟩) ∧
     (waits (d.stations.get p).holdOff → exec (.holdOffExpiry p) ⟨d, q⟩ = .next ⟨d, q⟩) ∧
     (waits (d.ports.get p).silence → exec (.silenceDeadlineExpiry p) ⟨d, q⟩ = .next ⟨d, q⟩) ∧
     (waits (d.ports.get p).answerDeadline → exec (.answerDeadlineExpiry p) ⟨d, q⟩ = .next ⟨d, q⟩)) ∧
  (∀ (d : Device) (q : List Instr) (p : Port), ∀ t, (d.stations.get p).holdOff = some t → 0 < (d.tb - t).toInt →
     exec (.holdOffExpiry p) ⟨d, q⟩ = .next
       ⟨{ d with stations := d.stations.set p { d.stations.get p with holdOff := none } }, q⟩)

/-- The query tick (R37): an inverse request at the track predicted for now + LOOKAHEAD for each station in STANDBY, not quiet, with a
transform and an ACCEPTING port, in port order, each in the place of a waiting request of its station; the next deadline; and in COAST the
automatic choice (R63), which starts a handoff or sets no_candidate. The output tick (R21, R22): while blind, in COAST or HANDOFF, one
PREDICTED record at the track predicted for now, saturated with SAT, and the next output deadline. -/
def Obligations.QueryAndOutputTicks : Prop :=
  (∀ (d : Device) (q : List Instr), ∀ t, d.track.deadlines.query = some t → 0 < (d.tb - t).toInt →
     let at_ := d.tb + BitVec.ofNat 32 d.params.lookahead
     let axis : Int → Int → Int := fun x v =>
       max (-2147483648) (min 2147483647 (x + roundDiv (v * (at_ - d.track.lastUpdate).toInt) 1000000))
     let point : Vec3 :=
       ⟨axis d.track.position.x d.track.velocity.x, axis d.track.position.y d.track.velocity.y,
        axis d.track.position.z d.track.velocity.z⟩
     let asked : Port → Bool := fun p =>
       decide (d.stationState p = .standby) && !(d.stations.get p).quiet && (d.xfu.records.get p).loaded &&
         decide ((d.ports.get p).state = .accepting)
     let fresh : List InverseRequest :=
       (allPorts.filter fun p => asked p && !(d.xfu.queryQueue.any fun r => decide (r.station = p))).map fun p => ⟨p, .query, point⟩
     let ticked : Device :=
       { d with
         xfu := { d.xfu with queryQueue :=
           (d.xfu.queryQueue.map fun r => if asked r.station then ⟨r.station, .query, point⟩ else r) ++ fresh }
         track := { d.track with deadlines := { d.track.deadlines with
           query := some (d.tb + BitVec.ofNat 32 d.params.queryInterval) } } }
     exec .queryDeadlineExpiry ⟨d, q⟩ = .next
       ⟨if d.track.state = .coast then
          (match ticked.choose with
           | some c => ticked.startHandoff c
           | none => { ticked with track := { ticked.track with noCandidate := true } })
        else ticked, q⟩) ∧
  (∀ (d : Device) (q : List Instr), ∀ t, d.track.deadlines.output = some t → 0 < (d.tb - t).toInt →
     d.track.blind = true → (d.track.state = .coast ∨ d.track.state = .handoff) →
     let exact : Int → Int → Int := fun x v => x + roundDiv (v * (d.tb - d.track.lastUpdate).toInt) 1000000
     let x := exact d.track.position.x d.track.velocity.x
     let y := exact d.track.position.y d.track.velocity.y
     let z := exact d.track.position.z d.track.velocity.z
     let fit : Int → Int := fun n => max (-2147483648) (min 2147483647 n)
     exec .outputDeadlineExpiry ⟨d, q⟩ = .next
       ⟨{ d with
           track := { d.track with
             recordSeq := d.track.recordSeq + 1
             deadlines := { d.track.deadlines with output := some (d.tb + BitVec.ofNat 32 d.params.outputInterval) } }
           engine := d.engine.join
             { seq := d.track.recordSeq, kind := .predicted, source := 0xFF, time := d.tb, position := ⟨fit x, fit y, fit z⟩,
               velocity := ⟨roundDiv d.track.velocity.x 1000, roundDiv d.track.velocity.y 1000, roundDiv d.track.velocity.z 1000⟩,
               residual := 0,
               flags := ⟨decide (¬ (fit x = x ∧ fit y = y ∧ fit z = z)), false, false, true, d.track.pathResult.longPath,
                 d.track.noCandidate⟩,
               state := d.track.state, last := 0 } }, q⟩)

/-- The handoff deadline (R53): the candidate is sent RELEASE with reason TIMEOUT unless it is ABSENT, failed-take learning is sent where
its bearing record holds an answer (R82), late_port names it, and the take fails (R47). The coast deadline (R55, R64): in COAST the track
enters SEARCH; in a blind HANDOFF it sets coast_expired and is absent. The search deadline (R35, R73): in ACQUIRE and SEARCH every SEARCHING
station is released with SEARCH_END and the track enters LOST. -/
def Obligations.TrackDeadlinesEnd : Prop :=
  (∀ (d : Device) (q : List Instr), ∀ t, d.track.deadlines.handoff = some t → 0 < (d.tb - t).toInt →
     d.track.state = .handoff → ∀ c, d.track.candidate = some c →
     exec .handoffDeadlineExpiry ⟨d, q⟩ = .next
       ⟨Device.failTake
         { d with
           stations := d.stations.set c { d.stations.get c with
             state := if d.stationState c = .absent then .absent else .standby }
           ports := d.ports.set c
             (if d.stationState c = .absent then d.ports.get c else (d.ports.get c).placeRelease .timeout).endOrder
           track := { d.track with latePort := some c, currentOrder := d.track.currentOrder.set c none }
           smu := { d.smu with learnQueue :=
             match (d.stations.get c).answer with
             | some a => d.smu.learnQueue ++ [⟨.track, c, a.az, a.el, .failedTake⟩]
             | none => d.smu.learnQueue } } c .timeout, q⟩) ∧
  (∀ (d : Device) (q : List Instr),
     (∀ t, d.track.deadlines.coast = some t → 0 < (d.tb - t).toInt →
       let ended : Device := { d with track := { d.track with deadlines := { d.track.deadlines with coast := none } } }
       (d.track.state = .coast → exec .coastDeadlineExpiry ⟨d, q⟩ = .next ⟨ended.enterSearch, q⟩) ∧
       (d.track.state = .handoff → exec .coastDeadlineExpiry ⟨d, q⟩ = .next
         ⟨{ ended with track := { ended.track with coastExpired := true } }, q⟩)) ∧
     (∀ t, d.track.deadlines.search = some t → 0 < (d.tb - t).toInt → (d.track.state = .acquire ∨ d.track.state = .search) →
       let searches : Port → Bool := fun p => decide (d.stationState p = .searching)
       exec .searchDeadlineExpiry ⟨d, q⟩ = .next
         ⟨Device.enterLost
           { d with
             stations := eachPort fun p =>
               if searches p then { d.stations.get p with state := .standby } else d.stations.get p
             ports := eachPort fun p =>
               if searches p then ((d.ports.get p).placeRelease .searchEnd).endOrder else d.ports.get p
             track := { d.track with
               currentOrder := eachPort fun p => if searches p then none else d.track.currentOrder.get p } }, q⟩))

/-! ## The station links -/

/-- Every release (R29): the RELEASE joins the control queue at the back, or gives its reason to one that still waits there; an order that
waits is withdrawn, and an order in flight goes on to its end, no longer current (R28). The sending half takes a frame and sends it (R156,
R157): IDLE on an up port, it takes IDREQ, else the control queue's oldest frame, else the query slot's POINT, with the next seq; when its
EOF has gone out it awaits an answer for 1,000 µs. The answers that waited have gone ahead of the EOF; one made while the EOF itself was on
the line waits on (R145). A frame goes out as SOF, kind, seq, length, payload, a check byte that makes the sum of kind through check 0
modulo 256, and EOF (R145, R192), the payload being its kind's. Where nothing is waiting, under way or due, the event changes nothing: the
model’s choice (notes/assumptions/4.md). The rest of a frame, and the answers ahead of it, gone out at EOF_SENT are its inference
(notes/assumptions/8.md). -/
def Obligations.ControlQueueKeptAndSent : Prop :=
  (∀ (l : LinkPort) (reason : ReleaseReason),
     ((∀ r, OutFrame.release r ∉ l.control) → (l.placeRelease reason) = { l with control := l.control ++ [.release reason] }) ∧
     (∀ before after r, l.control = before ++ .release r :: after → l.releases = 1 →
       l.placeRelease reason = { l with control := before ++ .release reason :: after }) ∧
     (l.endOrder.control = l.control.filter (fun f => match f with | .take _ | .search _ => false | _ => true)) ∧
     (l.endOrder.sending =
       match l.sending with
       | .idle => .idle
       | .sending f n => .sending { f with current := false } n
       | .awaiting f => .awaiting { f with current := false }) ∧
     l.endOrder = { l with control := l.endOrder.control, sending := l.endOrder.sending }) ∧
  (∀ (d : Device) (q : List Instr) (p : Port),
     let l := d.ports.get p
     let took : LinkPort → OutFrame → Bool → Device := fun rest f order =>
       { d with ports := d.ports.set p { rest with sending := .sending ⟨f, l.seqCounter, order⟩ 0, seqCounter := l.seqCounter + 1 } }
     (l.state ≠ .down → l.sending = .idle →
       exec (.outboundFrameTake p) ⟨d, q⟩ = .next
         ⟨if l.idreqPending then took { l with idreqPending := false } .idreq false
          else match l.control, l.slot with
            | f :: rest, _ => took { l with control := rest } f (match f with | .take _ | .search _ => true | _ => false)
            | [], some (tag, v) => took { l with slot := none } (.point tag v) false
            | [], none => d, q⟩) ∧
     ((l.state = .down ∨ l.sending ≠ .idle) → exec (.outboundFrameTake p) ⟨d, q⟩ = .next ⟨d, q⟩) ∧
     (∀ (f : InFlight) (n : Nat), l.sending = .sending f n → exec (.eofSent p) ⟨d, q⟩ = .next
       ⟨{ d with ports := d.ports.set p { l with
           sending := .awaiting f, answerDeadline := some (d.tb + 1000#32), line := .control 0xA2,
           answers := if f.chars.length ≤ n then l.answers else [] } }, q⟩) ∧
     ((∀ f n, l.sending ≠ .sending f n) → exec (.eofSent p) ⟨d, q⟩ = .next ⟨d, q⟩) ∧
     (∀ f : InFlight,
       let bytes4 : Word → List Byte := fun w => [w.extractLsb' 0 8, w.extractLsb' 8 8, w.extractLsb' 16 8, w.extractLsb' 24 8]
       let point : Vec3 → List Byte := fun v =>
         bytes4 (BitVec.ofInt 32 v.x) ++ bytes4 (BitVec.ofInt 32 v.y) ++ bytes4 (BitVec.ofInt 32 v.z)
       let body : Byte × List Byte :=
         match f.frame with
         | .idreq => (0x20, [])
         | .point tag v => (0x21, tag :: point v)
         | .take v => (0x22, point v)
         | .search none => (0x23, [])
         | .search (some (v, radius)) => (0x23, point v ++ bytes4 (BitVec.ofNat 32 radius))
         | .release reason => (0x24, [BitVec.ofNat 8 reason.code])
         | .pass bytes => (0x2F, bytes)
       ∃ check : Byte,
         let data : List Byte := body.1 :: f.seq :: BitVec.ofNat 8 body.2.length :: body.2 ++ [check]
         data.foldl (fun a b => a + b) 0 = 0 ∧ f.chars = .control 0xA1 :: data.map .data ++ [.control 0xA2]))

/-- The silence deadline (R146): in DOWN it empties the training count; otherwise the port enters DOWN with everything under way abandoned,
a lost RELEASE or PASS flagged and a frame in flight counted undelivered, and its station goes ABSENT (R108): identity and bearing record
forgotten, a pending quiet setting in effect, STATION_CHANGE raised, the link down reported to the track unit with the state before. A link
down as the track unit takes it (R8, R28, R30): late_port and the current order forget the port; the owner's is a BREAK (R41), a candidate's
fails the take with LINK (R52), a searcher's leaves the search (R34, R72), and a port in search_pending leaves it (R72). A BREAK from the
owner (R41, R54, R59, R60): in TRACKING the track becomes blind and enters COAST; in a sighted HANDOFF it becomes blind; the coast and
output deadlines start; a blind track and every other state are left as they stand. That the deadline keeps its value after its expiry is
taken is the model’s inference from R146 (notes/assumptions/7.md). -/
def Obligations.SilenceTakesPortDown : Prop :=
  (∀ (d : Device) (q : List Instr) (p : Port), ∀ t, (d.ports.get p).silence = some t → 0 < (d.tb - t).toInt →
     let l := d.ports.get p
     let s := d.stations.get p
     let gone : List OutFrame := l.control ++
       (match l.sending with | .idle => [] | .sending f _ => [f.frame] | .awaiting f => [f.frame])
     (l.state = .down → exec (.silenceDeadlineExpiry p) ⟨d, q⟩ = .next
       ⟨{ d with ports := d.ports.set p { l with training := 0 } }, q⟩) ∧
     (l.state ≠ .down → exec (.silenceDeadlineExpiry p) ⟨d, q⟩ = .next
       ⟨Device.reportLinkDown
         { d with
           ports := d.ports.set p { l with
               state := .down, training := 0, inFrame := none, inRefused := false, answers := [],
               idreqPending := false, control := [], slot := none, sending := .idle, answerDeadline := none,
               flags := { l.flags with
                 releaseLost := l.flags.releaseLost || gone.any OutFrame.isRelease,
                 passLost := l.flags.passLost || gone.any OutFrame.isPass },
               counters := { l.counters with
                 undelivered := if l.sending = .idle then l.counters.undelivered else countUp l.counters.undelivered } }
           stations := d.stations.set p { s with
               state := .absent, identity := none, query := none, answer := none,
               quiet := s.quietPending.getD s.quiet, quietPending := none }
           smu := { d.smu with
             lookups := d.smu.lookups.map fun k => if k.station = p then { k with forgotten := true } else k }
           notices := { d.notices with flags := d.notices.flags ||| 0x2000 } } p s.state, q⟩)) ∧
  (∀ (d : Device) (p : Port) (before : StationState),
     let ended : Device :=
       { d with
         ports := d.ports.set p (d.ports.get p).endOrder
         track := { d.track with
           latePort := if d.track.latePort = some p then none else d.track.latePort
           currentOrder := d.track.currentOrder.set p none } }
     d.reportLinkDown p before =
       if d.track.owner = some p then ended.ownerBreak
       else if d.track.state = .handoff ∧ d.track.candidate = some p then ended.failTake p .link
       else if before = .searching then
         (if d.track.state = .acquire ∧ d.anySearching = false then ended.enterLost
          else if d.track.state = .search then ended.endCheck else ended)
       else if d.track.state = .search ∧ d.track.searchPending.get p = true then
         Device.endCheck { ended with track := { ended.track with searchPending := ended.track.searchPending.set p false } }
       else ended) ∧
  (∀ d : Device,
     let blinded : Device :=
       { d with track := { d.track with
           blind := true
           deadlines := { d.track.deadlines with
             coast := some (d.tb + BitVec.ofNat 32 d.params.coastTime)
             output := some (d.tb + BitVec.ofNat 32 d.params.outputInterval) } } }
     d.ownerBreak =
       if d.track.state = .tracking then blinded.changeState .coast false
       else if d.track.state = .handoff ∧ d.track.blind = false then blinded
       else d)

/-- The end of a send (R157, R158, R159), on an up port with a frame awaiting its answer: an ACK delivers it; a NAK, or the answer deadline,
leaves it undelivered, flagging a lost RELEASE or PASS; a pending quiet setting takes effect (R115), and an undelivered order still current
is reported: a TAKE fails the take (R51), a SEARCH is taken as a FAIL (R34, R72). With no frame awaiting, an ACK or a NAK is counted. That
the frame boundary comes before the report is the model’s choice (notes/assumptions/10.md). -/
def Obligations.SendsEnd : Prop :=
  ∀ (d : Device) (q : List Instr) (p : Port), (d.ports.get p).state ≠ .down →
    let l := d.ports.get p
    let heard := d.tb + 2000#32
    let boundary : Device → Device := fun e =>
      match (d.stations.get p).quietPending with
      | none => e
      | some v => e.setQuiet p v
    let at_ : LinkPort → Device := fun l => { d with ports := d.ports.set p l }
    let sent : Option Word → Device := fun silence =>
      boundary <| at_
        { l with silence := silence, sending := .idle, answerDeadline := none,
                 counters := { l.counters with framesSent := countUp l.counters.framesSent } }
    let lost : Option Word → OutFrame → Device := fun silence f =>
      boundary <| at_
        { l with silence := silence, sending := .idle, answerDeadline := none,
                 flags := { l.flags with releaseLost := l.flags.releaseLost || f.isRelease,
                                         passLost := l.flags.passLost || f.isPass },
                 counters := { l.counters with undelivered := countUp l.counters.undelivered } }
    let reported : Device → InFlight → Device := fun e f =>
      match f.current, f.frame with
      | true, .take _ => if e.track.state = .handoff ∧ e.track.candidate = some p then e.failTake p .undelivered else e
      | true, .search _ => e.takeFail p
      | _, _ => e
    (∀ f : InFlight, l.sending = .awaiting f →
      exec (.ack p) ⟨d, q⟩ = .next ⟨sent (some heard), q⟩ ∧
      exec (.nak p) ⟨d, q⟩ = .next ⟨reported (lost (some heard) f.frame) f, q⟩ ∧
      (∀ t, l.answerDeadline = some t → 0 < (d.tb - t).toInt →
        exec (.answerDeadlineExpiry p) ⟨d, q⟩ = .next ⟨reported (lost l.silence f.frame) f, q⟩)) ∧
    ((∀ f : InFlight, l.sending ≠ .awaiting f) →
      let stray : Device := at_
        { l with silence := some heard, counters := { l.counters with strayAnswers := countUp l.counters.strayAnswers } }
      exec (.ack p) ⟨d, q⟩ = .next ⟨stray, q⟩ ∧ exec (.nak p) ⟨d, q⟩ = .next ⟨stray, q⟩)

/-- Training (R147): in DOWN a good IDLE adds one to the count, the eighth brings the link up, and every other character empties the count
and does nothing more. Link up (R107): ACCEPTING, IDREQ pending, the station in STANDBY or UNCONFIGURED by its transform, STATION_CHANGE,
and the station may join an acquire search (R32). The receiving half on an up port (R148, R153). Between frames in ACCEPTING a SOF starts a
frame and nothing else but an answer is taken; in a frame a BRK abandons it, an IDLE is passed over, and every other character is collected
until a 29th data character, an EOF or a SOF ends it, a SOF being answered with NAK as well. In REFUSING a SOF is answered with NAK, an EOF
ends the refused frame, and a BRK brings ACCEPTING back, where the station may join an acquire search (R32). Every character restarts the
silence measure (R146). That only an event that makes the station eligible lets it join is the model’s inference (notes/assumptions/19.md).
-/
def Obligations.ReceivingHalfTakesCharacters : Prop :=
  (∀ (d : Device) (q : List Instr) (p : Port), (d.ports.get p).state = .down →
     let l := { d.ports.get p with silence := some (d.tb + 2000#32) }
     let at_ : LinkPort → Device := fun l => { d with ports := d.ports.set p l }
     (l.training < 7 → exec (.idleCharacter p) ⟨d, q⟩ = .next ⟨at_ { l with training := l.training + 1 }, q⟩) ∧
     (l.training = 7 →
       let up : Device :=
         { at_ { l with state := .accepting, training := 0, inFrame := none, inRefused := false, idreqPending := true } with
           stations := d.stations.set p { d.stations.get p with
             state := if (d.xfu.records.get p).loaded then .standby else .unconfigured }
           notices := { d.notices with flags := d.notices.flags ||| 0x2000 } }
       exec (.idleCharacter p) ⟨d, q⟩ = .next
         ⟨if d.track.state = .acquire ∧ d.track.acquireMask.get p = true ∧ up.eligible p = true then up.sendSearch p none
          else up, q⟩) ∧
     (∀ i ∈ [Instr.sof p, .brk p, .ack p, .nak p, .eof p], exec i ⟨d, q⟩ = .next ⟨at_ { l with training := 0 }, q⟩) ∧
     (∀ c : LineChar, otherCharacter c = true →
       exec (.dataCharacter p c) ⟨d, q⟩ = .next ⟨at_ { l with training := 0 }, q⟩)) ∧
  (∀ (d : Device) (q : List Instr) (p : Port),
     let l := { d.ports.get p with silence := some (d.tb + 2000#32) }
     let at_ : LinkPort → Device := fun l => { d with ports := d.ports.set p l }
     (l.state = .accepting → l.inFrame = none →
       exec (.sof p) ⟨d, q⟩ = .next ⟨at_ { l with inFrame := some [] }, q⟩ ∧
       (∀ i ∈ [Instr.brk p, .eof p, .idleCharacter p], exec i ⟨d, q⟩ = .next ⟨at_ l, q⟩) ∧
       (∀ c, otherCharacter c = true → exec (.dataCharacter p c) ⟨d, q⟩ = .next ⟨at_ l, q⟩)) ∧
     (∀ chars, l.inFrame = some chars → l.state = .accepting →
       exec (.brk p) ⟨d, q⟩ = .next ⟨at_ { l with inFrame := none }, q⟩ ∧
       exec (.idleCharacter p) ⟨d, q⟩ = .next ⟨at_ l, q⟩ ∧
       exec (.eof p) ⟨d, q⟩ = .next ⟨(at_ l).endFrame p chars .eof, q⟩ ∧
       (let ended := (at_ l).endFrame p chars .sof
        let e := ended.ports.get p
        exec (.sof p) ⟨d, q⟩ = .next
          ⟨{ ended with ports := ended.ports.set p { e with
              inRefused := true, answers := e.answers ++ [.nak],
              counters := { e.counters with naksSent := countUp e.counters.naksSent } } }, q⟩) ∧
       (∀ c, otherCharacter c = true →
         exec (.dataCharacter p c) ⟨d, q⟩ = .next
           ⟨if (dataBytes (chars ++ [c])).length < 29 then at_ { l with inFrame := some (chars ++ [c]) }
            else (at_ l).endFrame p (chars ++ [c]) .overlong, q⟩)) ∧
     (l.state = .refusing →
       exec (.sof p) ⟨d, q⟩ = .next
         ⟨at_ { l with inRefused := true, answers := l.answers ++ [.nak],
                       counters := { l.counters with naksSent := countUp l.counters.naksSent } }, q⟩ ∧
       exec (.eof p) ⟨d, q⟩ = .next ⟨at_ { l with inRefused := false }, q⟩ ∧
       exec (.idleCharacter p) ⟨d, q⟩ = .next ⟨at_ l, q⟩ ∧
       (∀ c, otherCharacter c = true → exec (.dataCharacter p c) ⟨d, q⟩ = .next ⟨at_ l, q⟩) ∧
       (let back := at_ { l with state := .accepting, inFrame := none, inRefused := false }
        exec (.brk p) ⟨d, q⟩ = .next
         ⟨if d.track.state = .acquire ∧ d.track.acquireMask.get p = true ∧ back.eligible p = true then back.sendSearch p none
          else back, q⟩)))

/-! ## Frames -/

/-- Decode of encode, for every kind of frame a station sends: a frame with any field values its row can carry, its check byte made as R145
says, is judged good, and its fields are read back whole (R149, R151, R192). A character's ten bits are read back, and a character with one
bit turned over is received as a parity error (R144, R192). -/
def Obligations.FramesRoundTrip : Prop :=
  ((∀ seq r, judgeFrame ((frameBytes kindObs seq (obsPayload r)).map .data) .eof = .good (.obs seq r)) ∧
   (∀ seq r, judgeFrame ((frameBytes kindLock seq (obsPayload r)).map .data) .eof = .good (.lock seq r)) ∧
   (∀ seq r, 1 ≤ r.reason.toNat → r.reason.toNat ≤ 3 →
     judgeFrame ((frameBytes kindBreak seq (breakPayload r)).map .data) .eof = .good (.beamBreak r)) ∧
   (∀ seq r, r.reach.toNat ≤ 1 →
     judgeFrame ((frameBytes kindBearing seq (bearingPayload r)).map .data) .eof = .good (.bearing r)) ∧
   (∀ seq k r, judgeFrame ((frameBytes kindFail seq [k, r]).map .data) .eof = .good (.fail k r)) ∧
   (∀ seq i, judgeFrame ((frameBytes kindIdent seq (identityPayload i)).map .data) .eof = .good (.ident i)) ∧
   (∀ seq payload, payload.length ≤ 24 →
     judgeFrame ((frameBytes kindPass seq payload).map .data) .eof = .good (.pass payload))) ∧
  (∀ (control : Bool) (v : Byte),
     classifyBits (characterBits control v) = (if control then .control v else .data v) ∧
     ∀ i, i < 10 →
       classifyBits ((characterBits control v).modify i fun b => 1 - b) = .parityError)

/-- The checks of a frame in their order (R149, R151): the first parity error, ahead of an unassigned control character wherever that
stands; the first unassigned control character, the end by a SOF, a 29th data character, too few characters, a length above 24, a length
that does not fit, a sum that is not 0; then a kind that no station sends, a length that is not its kind's, a BREAK reason outside 1 to 3, a
BEARING reach above 1. One data byte of a good frame changed is always refused, by a check or by its format (R145, R149): where its SOF and
EOF stand and no parity error shows, the sum of the data characters is no longer 0. That the position of several unassigned control
characters, or of one and an ending SOF, is that of the first such character is the model’s choice (notes/assumptions/33.md). -/
def Obligations.FramesChecked : Prop :=
  ((∀ (before after : List LineChar) (ending : FrameEnd), (∀ c ∈ before, c ≠ .parityError) →
     judgeFrame (before ++ .parityError :: after) ending = .failed .parity (before.length + 1)) ∧
   (∀ (before : List Byte) (v : Byte) (after : List LineChar) (ending : FrameEnd), (∀ c ∈ after, c ≠ .parityError) →
     judgeFrame (before.map .data ++ .control v :: after) ending = .failed .check (before.length + 1)) ∧
   (∀ bytes : List Byte,
     let chars := bytes.map LineChar.data
     let length := (byteAt bytes 2).toNat
     judgeFrame chars .sof = .failed .check (bytes.length + 1) ∧
     judgeFrame chars .overlong = .failed .check 29 ∧
     (bytes.length < 4 → judgeFrame chars .eof = .failed .check (bytes.length + 1)) ∧
     (4 ≤ bytes.length → 24 < length → judgeFrame chars .eof = .failed .check 3) ∧
     (4 ≤ bytes.length → length ≤ 24 → bytes.length ≠ length + 4 → judgeFrame chars .eof = .failed .check (bytes.length + 1)) ∧
     (length ≤ 24 → bytes.length = length + 4 → byteSum bytes ≠ 0 → judgeFrame chars .eof = .failed .check bytes.length)) ∧
   (∀ (kind seq : Byte) (payload : List Byte), payload.length ≤ 24 →
     let verdict := judgeFrame ((frameBytes kind seq payload).map .data) .eof
     let n := payload.length
     (kind ∉ [(0x10 : Byte), 0x11, 0x12, 0x13, 0x14, 0x15, 0x1F] → verdict = .badFormat 1) ∧
     ((kind = 0x10 ∧ n ≠ 20 ∨ kind = 0x11 ∧ n ≠ 20 ∨ kind = 0x12 ∧ n ≠ 8 ∨ kind = 0x13 ∧ n ≠ 6 ∨ kind = 0x14 ∧ n ≠ 2 ∨
       kind = 0x15 ∧ n ≠ 12) → verdict = .badFormat 3) ∧
     (kind = 0x12 → n = 8 → ((byteAt payload 6).toNat = 0 ∨ 3 < (byteAt payload 6).toNat) → verdict = .badFormat 10) ∧
     (kind = 0x13 → n = 6 → 1 < (byteAt payload 1).toNat → verdict = .badFormat 5))) ∧
  (∀ (kind seq : Byte) (payload : List Byte) (i : Nat) (b : Byte), payload.length ≤ 24 →
     i < payload.length + 4 → (frameBytes kind seq payload).getD i 0 ≠ b →
     ∃ cause position,
       judgeFrame (((frameBytes kind seq payload).set i b).map .data) .eof = .failed cause position)

/-- A good OBS or LOCK taken in ACCEPTING between frames (R5, R82, R109, R130, R152, R155): ACK, frames_in and the view; seen learning; and,
with a transform, an entry with its observation time at the back of the ingest queue, the oldest lost and counted at a full one, else a
counted drop. A good BEARING, IDENT or PASS (R110, R118, R122, R152): a BEARING whose tag is the query's asks for a point lookup, any other
is counted in tag_mismatch; an IDENT replaces the identity and raises STATION_CHANGE; a PASS fills an empty mailbox and raises PASS_IN, or
sets PASS_OVERRUN at a full one. A good BREAK or FAIL (R30, R34, R49, R50, R72, R82, R155): the owner's BREAK by R41, R54 and R59, a
candidate's BREAK or FAIL fails the take with FAILED, a FAIL of a SEARCHING station ends its search, and all others are discarded; break
learning for reason 1, failed-take learning for a candidate's FAIL. A whole frame as one event is the model’s choice
(notes/assumptions/6.md). -/
def Obligations.GoodFramesDelivered : Prop :=
  (∀ (d : Device) (q : List Instr) (p : Port) (seq : Byte) (r : ObsReport),
     (d.ports.get p).state = .accepting → (d.ports.get p).inFrame = none →
     let l := d.ports.get p
     let s := d.stations.get p
     let waiting := d.xfu.ingest.get p
     let loaded := (d.xfu.records.get p).loaded
     let full := decide (d.xfu.outstanding.get p ≤ waiting.length)
     let entry : ReportKind → IngestEntry := fun kind =>
       ⟨kind, ⟨r.x.toInt, r.y.toInt, r.z.toInt⟩, r.az, r.el, d.tb - BitVec.ofNat 32 (min r.latency.toNat 50000),
        decide (50000 < r.latency.toNat), seq⟩
     let delivered : ReportKind → Device := fun kind =>
       { d with
         ports := d.ports.set p { l with
           silence := some (d.tb + 2000#32)
           answers := l.answers ++ [.ack]
           views := { l.views with observation := some (r.level, r.flags) }
           counters := { l.counters with framesIn := countUp l.counters.framesIn } }
         xfu := if loaded then
             { d.xfu with ingest := d.xfu.ingest.set p ((if full then waiting.tail else waiting) ++ [entry kind]) }
           else d.xfu
         stations := d.stations.set p { s with
           counters :=
             if loaded then
               { s.counters with
                 obsTaken := countUp s.counters.obsTaken
                 superseded := if full then countUp s.counters.superseded else s.counters.superseded }
             else { s.counters with noTransformDrops := countUp s.counters.noTransformDrops } }
         smu := { d.smu with learnQueue := d.smu.learnQueue ++ [⟨.link p, p, r.az, r.el, .seen⟩] } }
     exec (.obs p seq r) ⟨d, q⟩ = .next ⟨delivered .obs, q⟩ ∧ exec (.lock p seq r) ⟨d, q⟩ = .next ⟨delivered .lock, q⟩) ∧
  (∀ (d : Device) (q : List Instr) (p : Port) (seq : Byte),
     (d.ports.get p).state = .accepting → (d.ports.get p).inFrame = none →
     let l := d.ports.get p
     let s := d.stations.get p
     let taken : LinkPort := { l with
       silence := some (d.tb + 2000#32)
       answers := l.answers ++ [.ack]
       counters := { l.counters with framesIn := countUp l.counters.framesIn } }
     (∀ r : BearingReport, r.reach.toNat ≤ 1 →
       exec (.bearing p seq r) ⟨d, q⟩ = .next
         ⟨if s.query.map (fun k => k.tag) = some r.tag then
            { d with
              ports := d.ports.set p taken
              stations := d.stations.set p { s with counters := { s.counters with bearings := countUp s.counters.bearings } }
              smu := { d.smu with lookups :=
                d.smu.lookups ++ [⟨p, r.tag, decide (r.reach = 1), r.az, r.el, d.tb, none, false⟩] } }
          else
            { d with
              ports := d.ports.set p taken
              stations := d.stations.set p { s with
                counters := { s.counters with tagMismatch := countUp s.counters.tagMismatch } } }, q⟩) ∧
     (∀ i : Identity,
       exec (.ident p seq i) ⟨d, q⟩ = .next
         ⟨{ d with
             ports := d.ports.set p taken
             stations := d.stations.set p { s with identity := some i }
             notices := { d.notices with flags := d.notices.flags ||| 0x2000 } }, q⟩) ∧
     (∀ payload : List Byte, payload.length ≤ 24 →
       exec (.pass p seq payload) ⟨d, q⟩ = .next
         ⟨if s.mailbox.full then
            { d with ports := d.ports.set p { taken with flags := { l.flags with passOverrun := true } } }
          else
            { d with
              ports := d.ports.set p taken
              stations := d.stations.set p { s with mailbox := ⟨payload, true⟩ }
              notices := { d.notices with flags := d.notices.flags ||| 0x1000 } }, q⟩)) ∧
  (∀ (d : Device) (q : List Instr) (p : Port) (seq : Byte),
     (d.ports.get p).state = .accepting → (d.ports.get p).inFrame = none →
     let l := d.ports.get p
     let taken : LastReports → Device := fun views =>
       { d with ports := d.ports.set p { l with
           silence := some (d.tb + 2000#32)
           answers := l.answers ++ [.ack]
           views := views
           counters := { l.counters with framesIn := countUp l.counters.framesIn } } }
     (∀ r : BreakReport, 1 ≤ r.reason.toNat → r.reason.toNat ≤ 3 →
       let seen := taken { l.views with beamBreak := some (r.reason, r.latency) }
       let told : Device :=
         { seen with smu := { d.smu with learnQueue :=
             if r.reason = 1 then d.smu.learnQueue ++ [⟨.link p, p, r.az, r.el, .lost⟩] else d.smu.learnQueue } }
       exec (.breakFrame p seq r) ⟨d, q⟩ = .next
         ⟨if d.track.owner = some p then told.ownerBreak
          else if d.track.state = .handoff ∧ d.track.candidate = some p then told.failTake p .failed
          else told, q⟩) ∧
     (∀ orderKind reason : Byte,
       let seen := taken { l.views with fail := some (orderKind, reason) }
       let learned : Device :=
         { seen with smu := { d.smu with learnQueue :=
             match (d.stations.get p).answer with
             | some a => d.smu.learnQueue ++ [⟨.track, p, a.az, a.el, .failedTake⟩]
             | none => d.smu.learnQueue } }
       let left : Device :=
         { seen with
           stations := d.stations.set p { d.stations.get p with state := .standby }
           ports := d.ports.set p (seen.ports.get p).endOrder
           track := { d.track with currentOrder := d.track.currentOrder.set p none } }
       exec (.failFrame p seq orderKind reason) ⟨d, q⟩ = .next
         ⟨if d.track.owner = some p then seen
          else if d.track.state = .handoff ∧ d.track.candidate = some p then learned.failTake p .failed
          else if d.stationState p = .searching then
            (if d.track.state = .acquire ∧ left.anySearching = false then left.enterLost
             else if d.track.state = .search then left.endCheck else left)
          else seen, q⟩))

/-- A frame that fails a check of R149, or a format check of R151, taken in ACCEPTING between frames: NAK, the sticky flag and the error
capture of its cause, position and kind byte (R150); a failed check enters REFUSING and raises PORT_FAULT, where a SOF that ended the frame
is answered with a second NAK (R153); a format failure leaves the port in ACCEPTING. A whole frame that arrives in DOWN only empties the
training count and restarts the silence measure (R146, R147); in REFUSING it is answered with one NAK and discarded (R153). A whole frame as
one event is the model’s choice (notes/assumptions/6.md). -/
def Obligations.BadFramesRefused : Prop :=
  (∀ (d : Device) (q : List Instr) (p : Port), (d.ports.get p).state = .accepting → (d.ports.get p).inFrame = none →
     let l := d.ports.get p
     (∀ chars : List LineChar, isCheckFailure chars = true →
       let twice := decide (chars.getLast? = some (.control 0xA1))
       ∃ cause position, frameVerdict chars = .failed cause position ∧
         exec (.frameCheckFail p chars) ⟨d, q⟩ = .next
           ⟨{ d with
               ports := d.ports.set p { l with
                 state := .refusing
                 silence := some (d.tb + 2000#32)
                 inFrame := none
                 inRefused := twice
                 answers := l.answers ++ (if twice then [.nak, .nak] else [.nak])
                 flags := { l.flags with parity := l.flags.parity || decide (cause = .parity)
                                         check := l.flags.check || decide (cause = .check) }
                 capture := ⟨cause, position, chars.head?.bind charByte, d.tb⟩
                 counters := { l.counters with
                   naksSent := if twice then countUp (countUp l.counters.naksSent) else countUp l.counters.naksSent } }
               notices := { d.notices with flags := d.notices.flags ||| 1#14 <<< p.val } }, q⟩) ∧
     (∀ (kind seq : Byte) (payload : List Byte) (position : Nat), payload.length ≤ 24 →
       judgeFrame ((frameBytes kind seq payload).map .data) .eof = .badFormat position →
         exec (.formatFail p kind seq payload) ⟨d, q⟩ = .next
           ⟨{ d with ports := d.ports.set p { l with
               silence := some (d.tb + 2000#32)
               inFrame := none
               inRefused := false
               answers := l.answers ++ [.nak]
               flags := { l.flags with format := true }
               capture := ⟨.format, position, some kind, d.tb⟩
               counters := { l.counters with naksSent := countUp l.counters.naksSent } } }, q⟩)) ∧
  (∀ (d : Device) (q : List Instr) (p : Port) (seq kind a b : Byte) (r : ObsReport) (k : BreakReport) (g : BearingReport)
     (n : Identity) (payload : List Byte),
     let l := d.ports.get p
     ∀ i ∈ [Instr.obs p seq r, .lock p seq r, .breakFrame p seq k, .failFrame p seq a b, .bearing p seq g, .ident p seq n,
            .pass p seq payload, .formatFail p kind seq payload],
       (l.state = .down → exec i ⟨d, q⟩ = .next
         ⟨{ d with ports := d.ports.set p { l with silence := some (d.tb + 2000#32), training := 0 } }, q⟩) ∧
       (l.state = .refusing → exec i ⟨d, q⟩ = .next
         ⟨{ d with ports := d.ports.set p { l with
             silence := some (d.tb + 2000#32)
             inRefused := false
             answers := l.answers ++ [.nak]
             counters := { l.counters with naksSent := countUp l.counters.naksSent } } }, q⟩))

/-! ## The transform unit and the filter -/

/-- A grant (R125, R135, R136, R138) serves the first of the five requesters in the ring from the rotation pointer that holds an entry, with
the unit free: the entry leaves its queue, the pointer passes on unless a pair begins, and the operation starts on the record's values, or
the entry is dropped and counted where the record is unloaded. Otherwise nothing changes. Where nothing is waiting, under way or due, the
event changes nothing: the model’s choice (notes/assumptions/4.md). -/
def Obligations.GrantServesRing : Prop :=
  ∀ (d : Device) (q : List Instr),
    let ring : Nat → Requester := fun n =>
      match n % 5 with
      | 0 => .port 0
      | 1 => .port 1
      | 2 => .port 2
      | 3 => .port 3
      | _ => .queryQueue
    let first : Nat := match d.xfu.pointer with | .port p => p.val | .queryQueue => 4
    let holds : Requester → Prop := fun r =>
      match r with
      | .port p => d.xfu.ingest.get p ≠ []
      | .queryQueue => d.xfu.queryQueue ≠ []
    let started : Xfu → Port → Job → Xfu := fun x station job =>
      if (d.xfu.records.get station).loaded then { x with operation := some ⟨job, (d.xfu.records.get station).values⟩ }
      else { x with grantDrops := countUp x.grantDrops }
    (d.xfu.operation = none → ∀ i, i < 5 → holds (ring (first + i)) → (∀ j, j < i → ¬ holds (ring (first + j))) →
      (∀ p e rest, ring (first + i) = .port p → d.xfu.ingest.get p = e :: rest →
        let pairs := d.xfu.pairMode = true ∧ d.xfu.pairFlag = false ∧ rest ≠ []
        let left : Xfu :=
          { d.xfu with ingest := d.xfu.ingest.set p rest
                       pairFlag := decide pairs
                       pointer := if pairs then .port p else ring (p.val + 1) }
        exec .xfuGrant ⟨d, q⟩ = .next ⟨{ d with xfu := started left p (.forward p e) }, q⟩) ∧
      (∀ r rest, ring (first + i) = .queryQueue → d.xfu.queryQueue = r :: rest →
        let left : Xfu := { d.xfu with queryQueue := rest, pairFlag := false, pointer := .port 0 }
        let gen : Option Byte := if r.kind = .query then some (d.stations.get r.station).transformGen else none
        exec .xfuGrant ⟨d, q⟩ = .next ⟨{ d with xfu := started left r.station (.inverse r gen) }, q⟩)) ∧
    ((d.xfu.operation ≠ none ∨ ∀ i, i < 5 → ¬ holds (ring i)) → exec .xfuGrant ⟨d, q⟩ = .next ⟨d, q⟩)

/-- The end of an operation (R6, R7, R8, R69, R114, R117, R127, R129, R139, R140). A forward result goes by its source's role and kind:
foreign from an ABSENT station, the owner's to the filter or to relock confirmation, a LOCK to take confirmation, acquire or search
resolution, or answered with RELEASE UNSOLICITED and counted. A query result steps the tag and fills the query slot unless it is out of
date; a search result sends SEARCH to a station still eligible, and the end check follows. With no operation in flight nothing changes.
Where nothing is waiting, under way or due, the event changes nothing: the model’s choice (notes/assumptions/4.md). -/
def Obligations.CompletionDelivers : Prop :=
  ∀ (d : Device) (q : List Instr),
    (∀ p e v, d.xfu.operation = some ⟨.forward p e, v⟩ →
      let r : TrackResult :=
        ⟨p, e.kind, (v.forward e.point).saturate32, (v.forward e.point).overflows32, e.az, e.el, e.time, e.latClamped, e.seq⟩
      let free : Device :=
        { d with xfu := { d.xfu with
            operation := none
            forwardSat := if r.sat then countUp d.xfu.forwardSat else d.xfu.forwardSat } }
      let count : (TrackCounters → TrackCounters) → Device := fun f =>
        { free with track := { d.track with counters := f d.track.counters } }
      let foreign := count fun c => { c with foreignObs := countUp c.foreignObs }
      let answered := count fun c =>
        if d.track.latePort = some p then { c with lateLocks := countUp c.lateLocks }
        else { c with unsolicitedLocks := countUp c.unsolicitedLocks }
      exec .xfuCompletion ⟨d, q⟩ = .next
        ⟨if d.stationState p = .absent then foreign
         else if d.track.owner = some p then
           (if d.track.blind = true ∧ e.kind = .lock then free.confirmRelock r p else free.observe r)
         else if e.kind = .obs then foreign
         else if d.track.state = .handoff ∧ d.track.candidate = some p then free.confirmTake r p
         else if d.track.state = .acquire ∧ d.stationState p = .searching then free.winSearch r
         else if d.track.state = .search ∧ d.stationState p = .searching then free.resolveSearch r
         else { answered with ports := d.ports.set p ((d.ports.get p).placeRelease .unsolicited) }, q⟩) ∧
    (∀ k gen v, d.xfu.operation = some ⟨.inverse k gen, v⟩ →
      let p := k.station
      let s := d.stations.get p
      let raw := v.inverse k.point
      let free : Device :=
        { d with xfu := { d.xfu with
            operation := none
            inverseSat := if raw.overflows32 then countUp d.xfu.inverseSat else d.xfu.inverseSat } }
      (k.kind = .query → exec .xfuCompletion ⟨d, q⟩ = .next
        ⟨if s.state = .absent ∨ s.quiet = true ∨ gen ≠ some s.transformGen then free
         else
           { free with
             stations := d.stations.set p { s with
               tagCounter := s.tagCounter + 1, query := some ⟨s.tagCounter + 1, raw.saturate32, d.tb⟩ }
             ports := d.ports.set p { d.ports.get p with slot := some (s.tagCounter + 1, raw.saturate32) } }, q⟩) ∧
      (k.kind = .search →
        let left : Device :=
          { free with track := { d.track with searchPending := d.track.searchPending.set p false } }
        exec .xfuCompletion ⟨d, q⟩ = .next
        ⟨if d.track.state = .search ∧ d.track.searchPending.get p = true then
           (if d.eligible p then
              Device.endCheck
                { left with
                  stations := d.stations.set p { s with state := .searching }
                  ports := d.ports.set p { d.ports.get p with
                    control := (d.ports.get p).control ++ [.search (some (raw.saturate32, d.params.searchRadius))] }
                  track := { left.track with
                    latePort := if d.track.latePort = some p then none else d.track.latePort
                    currentOrder := d.track.currentOrder.set p (some .search) } }
            else left.endCheck)
         else free, q⟩)) ∧
    (d.xfu.operation = none → exec .xfuCompletion ⟨d, q⟩ = .next ⟨d, q⟩)

/-- The four tests of the owner's observation (R9 to R14, R19): stale, past the gap, inside the gate, an outlier. An update's path scan
request joins those on their way to the sight map unit at the back (R91). The path scan an applied observation asks for (R19): in TRACKING
or HANDOFF, sighted, with owner angles and the elevation on the map, from the new angles to the angles predicted LOOKAHEAD ahead; otherwise
none. What the state and flags of a record show is the model’s inference (notes/assumptions/16.md). -/
def Obligations.ObservationFiltered : Prop :=
  (∀ (d : Device) (r : TrackResult),
     let dt := (r.time - d.track.lastUpdate).toInt
     let ahead : Int → Int → Int := fun x v => x + roundDiv (v * dt) 1000000
     let pre : Vec3 :=
       ⟨ahead d.track.position.x d.track.velocity.x, ahead d.track.position.y d.track.velocity.y,
        ahead d.track.position.z d.track.velocity.z⟩
     let res : Vec3 := ⟨r.measured.x - pre.x, r.measured.y - pre.y, r.measured.z - pre.z⟩
     let within := fun n : Nat => res.x.natAbs ≤ n ∧ res.y.natAbs ≤ n ∧ res.z.natAbs ≤ n
     let place : Int → Int → Int := fun x e => x + roundDiv (d.params.alpha * e) 65536
     let speed : Int → Int → Int := fun v e => v + roundDiv (d.params.beta * e * 1000000) (65536 * dt)
     let fit : Int → Int := fun n => max (-2147483648) (min 2147483647 n)
     let slow : Int → Int := fun n => max (-4000000) (min 4000000 n)
     let raw : Vec3 := ⟨place pre.x res.x, place pre.y res.y, place pre.z res.z⟩
     let rawVelocity : Vec3 :=
       ⟨speed d.track.velocity.x res.x, speed d.track.velocity.y res.y, speed d.track.velocity.z res.z⟩
     let position : Vec3 := ⟨fit raw.x, fit raw.y, fit raw.z⟩
     let velocity : Vec3 := ⟨slow rawVelocity.x, slow rawVelocity.y, slow rawVelocity.z⟩
     let counters := d.track.counters
     let updated : TrackState → Device := fun after =>
       { d with
         track := { d.track with
           position := position, velocity := velocity, outlierRun := 0, lastUpdate := r.time,
           ownerAngles := some ⟨r.az, r.el, r.time⟩, recordSeq := d.track.recordSeq + 1,
           counters := { counters with accepted := countUp counters.accepted } }
         engine := d.engine.join
           { seq := d.track.recordSeq, kind := .update, source := BitVec.ofNat 8 r.source.val, time := r.time, position := position,
             velocity := ⟨roundDiv velocity.x 1000, roundDiv velocity.y 1000, roundDiv velocity.z 1000⟩,
             residual := min (max res.x.natAbs (max res.y.natAbs res.z.natAbs)) 65535,
             flags := ⟨r.sat || decide (position ≠ raw), decide (velocity ≠ rawVelocity), r.latClamped, d.track.blind,
               d.track.pathResult.longPath, d.track.noCandidate⟩,
             state := after, last := r.seq } }
     let seeded : TrackState → Nat → Half → Device := fun after run outliers =>
       { d with
         track := { d.track with
           position := r.measured, velocity := ⟨0, 0, 0⟩, outlierRun := run, lastUpdate := r.time,
           ownerAngles := some ⟨r.az, r.el, r.time⟩, recordSeq := d.track.recordSeq + 1,
           counters := { counters with
             accepted := countUp counters.accepted, reseeds := countUp counters.reseeds, outliers := outliers } }
         engine := d.engine.join
           { seq := d.track.recordSeq, kind := .reseed, source := BitVec.ofNat 8 r.source.val, time := r.time,
             position := r.measured, velocity := ⟨0, 0, 0⟩, residual := 0,
             flags := ⟨r.sat, false, r.latClamped, d.track.blind, d.track.pathResult.longPath, d.track.noCandidate⟩,
             state := after, last := r.seq } }
     let stale : Device := { d with track := { d.track with counters := { counters with stale := countUp counters.stale } } }
     (dt ≤ 0 → d.observe r = stale) ∧
     ((d.params.gap : Int) < dt → d.observe r = seeded d.track.state 0 counters.outliers) ∧
     (0 < dt → dt ≤ d.params.gap → within d.params.gate →
       d.observe r =
         match d.scanRequest r with
         | some s => { updated d.track.state with smu := { d.smu with scans := d.smu.scans ++ [s] } }
         | none => updated d.track.state) ∧
     (0 < dt → dt ≤ d.params.gap → ¬ within d.params.gate →
       d.observe r =
         if d.params.outlierLimit ≤ d.track.outlierRun + 1 then seeded d.track.state 0 (countUp counters.outliers)
         else
           { d with track := { d.track with
               outlierRun := d.track.outlierRun + 1
               counters := { counters with outliers := countUp counters.outliers } } }) ∧
     (∀ after, d.reseed r after = seeded after 0 counters.outliers) ∧
     (∀ after, 0 < dt → d.applyLock r after =
       if (d.params.gap : Int) < dt then seeded after 0 counters.outliers else updated after) ∧
     (d.judgeLock r =
       if dt ≤ 0 then .stale
       else if (d.params.gap : Int) < dt then .pastGap
       else if within d.params.handoffGate then .inside else .outside)) ∧
  (∀ (d : Device) (r : TrackResult),
     let dt := (r.time - d.track.lastUpdate).toInt
     let row := (r.el.toInt + 8192) / 128
     let wanted := (d.track.state = .tracking ∨ d.track.state = .handoff) ∧ d.track.blind = false ∧ 0 ≤ row ∧ row ≤ 127
     (∀ a : OwnerAngles, d.track.ownerAngles = some a → wanted →
       d.scanRequest r = some
         { port := r.source, startAz := r.az, startEl := r.el,
           endAz := r.az + BitVec.ofInt 16 (roundDiv ((r.az - a.az).toInt * d.params.lookahead) dt),
           endEl := BitVec.ofInt 16
             (max (-32768) (min 32767 (r.el.toInt + roundDiv ((r.el.toInt - a.el.toInt) * d.params.lookahead) dt))),
           result := none }) ∧
     ((d.track.ownerAngles = none ∨ ¬ wanted) → d.scanRequest r = none))

/-- A LOCK judged by confirmation (R15, R45, R61): take confirmation accepts it past the gap or inside HANDOFF_GATE and completes the
handoff (R46), and otherwise releases the candidate WRONG_TARGET and fails the take (R48); relock confirmation in COAST or HANDOFF ends the
blindness (R61, R66), or releases the owner WRONG_TARGET, abandons a take under way and enters SEARCH (R62, R67). Acquire and search
resolution (R33, R70, R71): the winning LOCK reseeds the track and makes its source the owner, the other SEARCHING stations are released
NOT_CHOSEN, and the track enters TRACKING; in SEARCH a LOCK that is stale, or beyond SEARCH_RADIUS of the search point on some axis, is
released OUT_OF_RADIUS, and the end check follows (R72). What the state and flags of a record show is the model’s inference
(notes/assumptions/16.md). -/
def Obligations.LocksConfirmed : Prop :=
  (∀ (d : Device) (r : TrackResult),
     let good := d.judgeLock r = .pastGap ∨ d.judgeLock r = .inside
     let counted : Device :=
       if d.judgeLock r = .stale then
         { d with track := { d.track with counters := { d.track.counters with stale := countUp d.track.counters.stale } } }
       else d
     let freed : Port → Device → Device := fun p e =>
       { e with
         stations := e.stations.set p { e.stations.get p with
           state := if e.stationState p = .absent then .absent else .standby }
         ports := e.ports.set p
           (if e.stationState p = .absent then e.ports.get p else (e.ports.get p).placeRelease .wrongTarget).endOrder
         track := { e.track with currentOrder := e.track.currentOrder.set p none } }
     let seen : Device :=
       { d with track := { d.track with
           blind := false, coastExpired := false,
           deadlines := { d.track.deadlines with coast := none, output := none } } }
     let sat := if (d.params.gap : Int) < d.track.age r.time then r.sat else d.updateSat r
     (∀ c o : Port, d.track.owner = some o → o ≠ c →
       let applied := seen.applyLock r .tracking
       let done : Device :=
         { applied with
           stations := (d.stations.set o { d.stations.get o with
               state := if d.stationState o = .absent then .absent else .standby }).set c { d.stations.get c with state := .owner }
           ports := (d.ports.set o
               (if d.stationState o = .absent then d.ports.get o else (d.ports.get o).placeRelease .handedOff).endOrder).set c
               (d.ports.get c).endOrder
           track := { applied.track with
             owner := some c
             candidate := none
             pathResult := ⟨none, 0, false⟩
             currentOrder := (d.track.currentOrder.set o none).set c none
             deadlines := { applied.track.deadlines with handoff := none }
             counters := { applied.track.counters with handoffsDone := countUp d.track.counters.handoffsDone } }
           notices := { applied.notices with flags := applied.notices.flags ||| 0x40 } }
       (good → d.confirmTake r c = done.changeState .tracking sat) ∧
       (¬ good → d.confirmTake r c = (freed c counted).failTake c .wrongTarget)) ∧
     (∀ o : Port, d.track.state = .coast ∨ d.track.state = .handoff →
       let applied := seen.applyLock r (if d.track.state = .coast then .tracking else .handoff)
       let relocked : Device :=
         { applied with
           stations := d.stations.set o { d.stations.get o with state := .owner }
           track := { applied.track with pathResult := ⟨none, 0, false⟩ } }
       let dropped : Device := { freed o counted with track := { (freed o counted).track with owner := none } }
       (good → d.confirmRelock r o =
         if d.track.state = .coast then relocked.changeState .tracking sat else relocked) ∧
       (¬ good → d.confirmRelock r o =
         Device.enterSearch
           (match d.track.candidate with
            | none => dropped
            | some c =>
              { dropped with
                stations := dropped.stations.set c { dropped.stations.get c with
                  state := if dropped.stationState c = .absent then .absent else .standby }
                ports := dropped.ports.set c (dropped.ports.get c).endOrder
                track := { dropped.track with
                  candidate := none
                  currentOrder := dropped.track.currentOrder.set c none
                  deadlines := { dropped.track.deadlines with handoff := none } } })))) ∧
  (∀ (d : Device) (r : TrackResult), d.stationState r.source = .searching →
     let others : Port → Bool := fun p => decide (d.stationState p = .searching) && decide (p ≠ r.source)
     let seeded := d.reseed r .tracking
     let won : Device :=
       { seeded with
         stations := eachPort fun p =>
           if p = r.source then { d.stations.get p with state := .owner }
           else if others p then { d.stations.get p with state := .standby } else d.stations.get p
         ports := eachPort fun p =>
           if p = r.source then (d.ports.get p).endOrder
           else if others p then ((d.ports.get p).placeRelease .notChosen).endOrder else d.ports.get p
         track := { seeded.track with
           owner := some r.source
           pathResult := ⟨none, 0, false⟩
           searchPending := ⟨false, false, false, false⟩
           searchPoint := none
           deadlines := { d.track.deadlines with search := none }
           currentOrder := eachPort fun p => if p = r.source ∨ others p = true then none else d.track.currentOrder.get p } }
     let loser : Device → Device := fun e =>
       { e with
         stations := d.stations.set r.source { d.stations.get r.source with state := .standby }
         ports := d.ports.set r.source ((d.ports.get r.source).placeRelease .outOfRadius).endOrder
         track := { e.track with currentOrder := d.track.currentOrder.set r.source none } }
     d.winSearch r = won.changeState .tracking r.sat ∧
     (∀ m : Vec3, d.track.searchPoint = some m →
       let near := (r.measured.x - m.x).natAbs ≤ d.params.searchRadius ∧ (r.measured.y - m.y).natAbs ≤ d.params.searchRadius ∧
         (r.measured.z - m.z).natAbs ≤ d.params.searchRadius
       let dt := (r.time - d.track.lastUpdate).toInt
       (0 < dt → near → d.resolveSearch r = d.winSearch r) ∧
       (0 < dt → ¬ near → d.resolveSearch r = (loser d).endCheck) ∧
       (dt ≤ 0 → d.resolveSearch r = Device.endCheck (loser
         { d with track := { d.track with counters := { d.track.counters with stale := countUp d.track.counters.stale } } }))))

/-! ## The record output engine -/

/-- The bytes of a record and of a completion, and a descriptor read back from its sixteen bytes (R173, R193): every field of more than one
byte least significant byte first, or reversed under BYTE_ORDER big; the records 32 bytes long, the completions 8. An engine address is
translated by the first enabled window, 0 before 1, whose base agrees with it above the size exponent: the bus address takes the target's
bits from there up and the address's below (R172). -/
def Obligations.HostLayoutsAndAddresses : Prop :=
  ((∀ (r : Record) (big : Bool),
     let l := r.bytes big
     let half : Nat → Half := fun i => if big then l.getD i 0 ++ l.getD (i + 1) 0 else l.getD (i + 1) 0 ++ l.getD i 0
     let word : Nat → Word := fun i =>
       if big then l.getD i 0 ++ l.getD (i + 1) 0 ++ l.getD (i + 2) 0 ++ l.getD (i + 3) 0
       else l.getD (i + 3) 0 ++ l.getD (i + 2) 0 ++ l.getD (i + 1) 0 ++ l.getD i 0
     l.length = 32 ∧ half 0 = r.seq ∧ (l.getD 2 0).toNat = r.kind.code ∧ l.getD 3 0 = r.source ∧ word 4 = r.time ∧
     word 8 = BitVec.ofInt 32 r.position.x ∧ word 12 = BitVec.ofInt 32 r.position.y ∧ word 16 = BitVec.ofInt 32 r.position.z ∧
     half 20 = BitVec.ofInt 16 r.velocity.x ∧ half 22 = BitVec.ofInt 16 r.velocity.y ∧ half 24 = BitVec.ofInt 16 r.velocity.z ∧
     half 26 = BitVec.ofNat 16 r.residual ∧
     half 28 = BitVec.ofNat 16 (r.flags.sat.toNat + 2 * r.flags.velClamped.toNat + 4 * r.flags.latClamped.toNat +
       8 * r.flags.blind.toNat + 16 * r.flags.longPath.toNat + 32 * r.flags.noCandidate.toNat) ∧
     (l.getD 30 0).toNat = r.state.code ∧ l.getD 31 0 = r.last) ∧
   (∀ (written : Nat) (status : CompletionStatus) (error : Option EngineError) (seq : Half),
     completionBytes false written status error seq =
       [BitVec.ofNat 8 written, BitVec.ofNat 8 (written / 256), BitVec.ofNat 8 status.code, BitVec.ofNat 8 (engineErrorCode error),
        seq.setWidth 8, (seq >>> 8).setWidth 8, 0, 0] ∧
     completionBytes true written status error seq =
       [BitVec.ofNat 8 (written / 256), BitVec.ofNat 8 written, BitVec.ofNat 8 status.code, BitVec.ofNat 8 (engineErrorCode error),
        (seq >>> 8).setWidth 8, seq.setWidth 8, 0, 0]) ∧
   (∀ (address buffer next writeback : Word) (capacity unused : Half) (big : Bool),
     let swap : Word → Word := fun w =>
       if big then (w.extractLsb' 0 8 ++ w.extractLsb' 8 8 ++ w.extractLsb' 16 8 ++ w.extractLsb' 24 8) else w
     let swapHalf : Half → Half := fun h => if big then (h.extractLsb' 0 8 ++ h.extractLsb' 8 8) else h
     readDescriptor address big (swap writeback ++ swap next ++ (swapHalf unused ++ swapHalf capacity) ++ swap buffer) =
       ⟨address, buffer, capacity, next, writeback, 0, 0⟩)) ∧
  (∀ (e : Engine) (a : Word), e.window0.exponent ≤ 31 → e.window1.exponent ≤ 31 →
     let covers : Window → Prop := fun w =>
       w.enabled = true ∧ a.toNat / 2 ^ w.exponent = w.base.toNat / 2 ^ w.exponent
     let bus : Window → Word := fun w =>
       BitVec.ofNat 32 (w.target.toNat / 2 ^ w.exponent * 2 ^ w.exponent + a.toNat % 2 ^ w.exponent)
     (covers e.window0 → e.translate a = some (bus e.window0)) ∧
     (¬ covers e.window0 → covers e.window1 → e.translate a = some (bus e.window1)) ∧
     (¬ covers e.window0 → ¬ covers e.window1 → e.translate a = none))

/-- The actions of the engine control word (R169, R170, R171). Every write stores the two settings. With no write in flight ENABLE takes the
engine from DISABLED to IDLE, ENGINE_RESET takes it to its reset values but for the windows and the settings, and DISABLE ends what it does:
the records held count as dropped and an open buffer that holds a record gets a PARTIAL completion. With a write in flight an action is
held: ENABLE where none is, DISABLE over any but ENGINE_RESET, ENGINE_RESET over any; a held ROE_START so replaced reads REFUSED with STATE.
ROE_START (R171, R174): refused with BUSY while another action is held, with STATE in DISABLED, held while a write is in flight; otherwise
taken: error and flush cleared, the new descriptor fetched, after the HALTED_BY_START completion of an open buffer. ROE_FLUSH (R178) is
refused with STATE in DISABLED and HALTED. ROE_RESUME (R179) re-reads the next field of the last descriptor in STARVED, and is refused with
BUSY while an action is held or an access is in flight, with STATE in any other state. When ENABLE is held is the model’s inference
(notes/assumptions/20.md). -/
def Obligations.EngineActionsTaken : Prop :=
  (∀ (d : Device) (q : List Instr) (big flush : Bool),
     let e : Engine := { d.engine with bigEndian := big, flushOnLost := flush }
     let is : Engine → Device := fun e => { d with engine := e }
     let dropped : Device :=
       if d.engine.startHeld then { d with sbi := { d.sbi with status := ⟨0x40, .refused, .state⟩ } } else d
     exec (.engineControlSettings big flush) ⟨d, q⟩ = .next ⟨is e, q⟩ ∧
     (d.engine.writeInFlight = false →
       exec (.enable big flush) ⟨d, q⟩ = .next ⟨is (if e.state = .disabled then { e with state := .idle } else e), q⟩ ∧
       exec (.engineReset big flush) ⟨d, q⟩ = .next
         ⟨is ⟨.disabled, false, [], 0, 0, 0, e.window0, e.window1, big, flush, none, 0, none, 0, none, none, none⟩, q⟩ ∧
       (let off : Engine :=
          { e with state := .disabled, access := none, bufferOpen := false, fifo := [], flush := none,
                   dropped := e.dropped + BitVec.ofNat 32 e.fifo.length }
        exec (.disable big flush) ⟨d, q⟩ = .next
         ⟨if e.state = .disabled then is e
          else match e.bufferOpen, e.current with
            | true, some c => if c.written = 0 then is off else (is off).beginWriteback .final .partialFill c
            | _, _ => is off, q⟩)) ∧
     (d.engine.writeInFlight = true →
       exec (.enable big flush) ⟨d, q⟩ = .next ⟨is { e with held := if e.held = none then some .enable else e.held }, q⟩ ∧
       exec (.disable big flush) ⟨d, q⟩ = .next
         ⟨if e.held = some .engineReset then is e else { dropped with engine := { e with held := some .disable } }, q⟩ ∧
       exec (.engineReset big flush) ⟨d, q⟩ = .next ⟨{ dropped with engine := { e with held := some .engineReset } }, q⟩)) ∧
  (∀ (d : Device) (q : List Instr), d.engine.startHeld = false →
     let e := d.engine
     let address := d.sbi.parameters.p0
     let is : Engine → Device := fun e => { d with engine := e }
     let begun : Device := is
       { e with state := .fetching, error := none, errorAddress := 0, flush := none, access := none, bufferOpen := false,
                current := some ⟨address, 0, 0, 0, 0, 0, 0⟩ }
     exec .roeStart ⟨d, q⟩ = .next
       ⟨if e.held ≠ none then d.setStatus 0x40 .refused .busy
        else if e.state = .disabled then d.setStatus 0x40 .refused .state
        else if e.writeInFlight then (is { e with held := some (.start address) }).setStatus 0x40 .pending .nothing
        else Device.setStatus
          (match e.bufferOpen, e.current with
           | true, some c => begun.beginWriteback .beforeFetch .haltedByStart c
           | _, _ => begun.beginFetch) 0x40 .done .nothing, q⟩ ∧
     exec .roeFlush ⟨d, q⟩ = .next
       ⟨if e.state = .disabled ∨ e.state = .halted then d.setStatus 0x41 .refused .state
        else d.flush.setStatus 0x41 .done .nothing, q⟩ ∧
     exec .roeResume ⟨d, q⟩ = .next
       ⟨if e.held ≠ none ∨ (e.state = .starved ∧ e.access ≠ none) then d.setStatus 0x42 .refused .busy
        else if e.state ≠ .starved then d.setStatus 0x42 .refused .state
        else Device.setStatus
          (match e.translate (e.lastDescriptor + 8) with
           | some bus => is { e with access := some (.reread (e.lastDescriptor + 8) bus e.bigEndian) }
           | none => d.engineError .address e.lastDescriptor) 0x42 .done .nothing, q⟩)

/-- A flush (R178): in FETCHING and RUNNING it counts the records now held; with none held, an open buffer that holds a record closes
PARTIAL at once; elsewhere it changes nothing. A buffer that closes begins its writeback (R177); an error halts the engine (R180). The
action held during a write is taken once no write is in flight (R171): a START by R174, its command status then DONE (R188), ENABLE and
ENGINE_RESET by R169, DISABLE by R170. When a held action is taken is the model’s inference (notes/assumptions/20.md). -/
def Obligations.BuffersCloseAndErrorsHalt : Prop :=
  (∀ d : Device,
     let e := d.engine
     let is : Engine → Device := fun e => { d with engine := e }
     (d.flush =
       if e.state = .fetching ∨ e.state = .running then
         (if e.fifo ≠ [] then is { e with flush := some e.fifo.length }
          else match e.bufferOpen, e.current with
            | true, some c =>
              if c.written = 0 then is { e with flush := none }
              else (is { e with flush := none }).closeBuffer .partialFill
            | _, _ => is { e with flush := none })
       else d) ∧
     (∀ c status, e.current = some c →
       d.closeBuffer status = (is { e with bufferOpen := false }).beginWriteback .followChain status c) ∧
     (∀ purpose status c bus, e.translate c.writeback = some bus →
       let bytes := completionBytes e.bigEndian c.written status none c.lastSeq
       d.beginWriteback purpose status c =
         is { e with access := some (.writeback purpose c.address c.writeback bus bytes) }) ∧
     (∀ c code,
       let bytes := completionBytes e.bigEndian c.written .error (some code) c.lastSeq
       d.reportError c code =
         match e.translate c.writeback with
         | some bus =>
           if c.writeback.toNat % 8 = 0 then
             is { e with access := some (.writeback .errorReport c.address c.writeback bus bytes) }
           else d
         | none => d) ∧
     (∀ purpose status c, e.translate c.writeback = none →
       d.beginWriteback purpose status c =
         if purpose = .final then
           { is { e with error := some .address, errorAddress := c.writeback } with
             notices := { d.notices with flags := d.notices.flags ||| 0x100 } }
         else d.engineError .address c.writeback) ∧
     (∀ code address, d.engineError code address =
       { is { e with error := some code, errorAddress := address, flush := none, state := .halted, bufferOpen := false,
                     access := none } with
         notices := { d.notices with flags := d.notices.flags ||| 0x100 } }) ∧
     (∀ c, e.current = some c →
       d.beginFetch =
         if c.address.toNat % 16 ≠ 0 then d.engineError .align c.address
         else match e.translate c.address with
           | none => d.engineError .address c.address
           | some bus => is { e with access := some (.descriptorRead c.address bus e.bigEndian) })) ∧
  (∀ d : Device,
     let e := d.engine
     let free : Device := { d with engine := { e with held := none } }
     (e.writeInFlight = true → d.takeHeld = d) ∧
     (e.writeInFlight = false → e.held = none → d.takeHeld = d) ∧
     (e.writeInFlight = false → ∀ a, e.held = some (.start a) → d.takeHeld = (free.takeStart a).setStatus 0x40 .done .nothing) ∧
     (e.writeInFlight = false → e.held = some .enable → d.takeHeld = free.takeEnable) ∧
     (e.writeInFlight = false → e.held = some .disable → d.takeHeld = free.takeDisable) ∧
     (e.writeInFlight = false → e.held = some .engineReset → d.takeHeld = free.takeEngineReset))

/-- Record writes (R176, R177, R178, R180). A write begins in RUNNING with a buffer open and not full, a record held and no access in
flight, at the buffer's next 32 bytes. Its end without error takes the record out of the FIFO and closes the buffer COMPLETE when full, or
PARTIAL when a pending flush has counted its last record (a pending flush counts at least one record, the order of the engine that every
step keeps); a bus error halts the engine, with an ERROR completion where the writeback place is good. A held action is taken after it
(R171). With nothing of its kind in flight, or nothing to write, the engine's own events change nothing (R171, R175, R176). Where nothing is
waiting, under way or due, the event changes nothing: the model’s choice (notes/assumptions/4.md). -/
def Obligations.RecordWritesBeginAndEnd : Prop :=
  (∀ (d : Device) (q : List Instr) (r : Record) (rest : List Record) (c : Descriptor),
     let e := d.engine
     let is : Engine → Device := fun e => { d with engine := e }
     e.fifo = r :: rest → e.current = some c →
     (let address := c.buffer + BitVec.ofNat 32 (32 * c.written)
      let ready := e.state = .running ∧ e.bufferOpen = true ∧ e.access = none ∧ c.written < c.capacity.toNat
      (ready → ∀ bus, e.translate address = some bus →
        exec .recordWriteBegin ⟨d, q⟩ = .next
          ⟨is { e with access := some (.recordWrite address bus (r.bytes e.bigEndian)) }, q⟩) ∧
      (ready → e.translate address = none →
        exec .recordWriteBegin ⟨d, q⟩ = .next ⟨(d.engineError .address address).reportError c .address, q⟩) ∧
      (¬ ready → exec .recordWriteBegin ⟨d, q⟩ = .next ⟨d, q⟩)) ∧
     (∀ address bus bytes, e.access = some (.recordWrite address bus bytes) →
       let last := decide (e.flush = some 1)
       let landed : Device := is
         { e with access := none, fifo := rest, written := e.written + 1,
                  current := some { c with written := c.written + 1, lastSeq := r.seq },
                  flush := if last then none else e.flush.map (fun n => n - 1) }
       ((∀ n, e.flush = some n → 0 < n) → exec (.recordWriteEnd true) ⟨d, q⟩ = .next
         ⟨Device.takeHeld
           (if c.written + 1 = c.capacity.toNat then landed.closeBuffer .complete
            else if last then landed.closeBuffer .partialFill else landed), q⟩) ∧
       exec (.recordWriteEnd false) ⟨d, q⟩ = .next ⟨((d.engineError .bus address).reportError c .bus).takeHeld, q⟩)) ∧
  (∀ (d : Device) (q : List Instr),
     let e := d.engine
     ((e.fifo = [] ∨ e.current = none) → exec .recordWriteBegin ⟨d, q⟩ = .next ⟨d, q⟩) ∧
     ((∀ a b l, e.access ≠ some (.recordWrite a b l)) → ∀ ok, exec (.recordWriteEnd ok) ⟨d, q⟩ = .next ⟨d, q⟩) ∧
     ((∀ p x a b l, e.access ≠ some (.writeback p x a b l)) → ∀ ok, exec (.writebackEnd ok) ⟨d, q⟩ = .next ⟨d, q⟩) ∧
     ((∀ a b g, e.access ≠ some (.descriptorRead a b g)) → ∀ answer, exec (.descriptorReadEnd answer) ⟨d, q⟩ = .next ⟨d, q⟩) ∧
     ((∀ a b g, e.access ≠ some (.reread a b g)) → ∀ answer, exec (.rereadEnd answer) ⟨d, q⟩ = .next ⟨d, q⟩))

/-- The end of a completion writeback (R170, R174, R177, R180), and then a held action (R171): the chain is followed to the next descriptor,
or the engine is STARVED with CHAIN_END; DISABLE's final writeback only raises BUFFER_DONE; the fetch of a START begins; an ERROR writeback
does nothing more. A bus error is taken as an error at the writeback address, but leaves a DISABLED engine DISABLED and is ignored for an
ERROR writeback. The end of a descriptor read (R175): a bus error, or the checks of the descriptor in their order, halt the engine, with an
ERROR completion where the writeback place is good (R180); a descriptor that passes them opens its buffer in RUNNING. The end of a re-read
(R179): a next field of 0 leaves the engine STARVED, any other begins a fetch there. That an answer is of the read now in flight is the
model’s choice (notes/assumptions/34.md). The address named where both addresses fail one check is a free value, which the statement leaves
open (notes/assumptions/17.md); the fields a next address leaves standing are its inference (notes/assumptions/21.md). -/
def Obligations.WritebacksAndReadsEnd : Prop :=
  (∀ (d : Device) (q : List Instr) (purpose : WritebackPurpose) (x address bus : Word) (bytes : List Byte),
     let e := d.engine
     e.access = some (.writeback purpose x address bus bytes) →
     let is : Engine → BitVec 14 → Device := fun e bits =>
       { d with engine := e, notices := { d.notices with flags := d.notices.flags ||| bits } }
     exec (.writebackEnd true) ⟨d, q⟩ = .next
       ⟨Device.takeHeld
         (match purpose, e.current with
          | .followChain, some c =>
            if c.next = 0 then is { e with access := none, lastDescriptor := x, state := .starved, flush := none } 0x600
            else
              (is { e with access := none, lastDescriptor := x, state := .fetching,
                           current := some { c with address := c.next } } 0x200).beginFetch
          | .followChain, none => is { e with access := none, lastDescriptor := x } 0x200
          | .final, _ => is { e with access := none } 0x200
          | .beforeFetch, _ => (is { e with access := none, lastDescriptor := x } 0).beginFetch
          | .errorReport, _ => is { e with access := none } 0), q⟩ ∧
     exec (.writebackEnd false) ⟨d, q⟩ = .next
       ⟨Device.takeHeld
         (match purpose with
          | .followChain | .beforeFetch => d.engineError .bus address
          | .final => is { e with access := none, error := some .bus, errorAddress := address } 0x100
          | .errorReport => is { e with access := none } 0), q⟩) ∧
  (∀ (d : Device) (q : List Instr) (address bus : Word) (big : Bool),
     let e := d.engine
     let is : Engine → Device := fun e => { d with engine := e }
     (e.access = some (.descriptorRead address bus big) →
       exec (.descriptorReadEnd none) ⟨d, q⟩ = .next ⟨d.engineError .bus address, q⟩ ∧
       ∀ bytes : BitVec 128,
         let c := readDescriptor address big bytes
         let stop : EngineError → Word → Device := fun code at_ => (d.engineError code at_).reportError c code
         let either : Word := if Config.namesWriteback c.buffer c.writeback then c.writeback else c.buffer
         exec (.descriptorReadEnd (some bytes)) ⟨d, q⟩ = .next
           ⟨if c.buffer.toNat % 32 ≠ 0 ∨ c.writeback.toNat % 8 ≠ 0 then
              stop .align (if c.buffer.toNat % 32 = 0 then c.writeback
                           else if c.writeback.toNat % 8 = 0 then c.buffer else either)
            else if e.translate c.buffer = none ∨ e.translate c.writeback = none then
              stop .address (if (e.translate c.buffer).isSome then c.writeback
                             else if (e.translate c.writeback).isSome then c.buffer else either)
            else if c.capacity.toNat = 0 ∨ 128 < c.capacity.toNat then stop .capacity c.address
            else if 4096 < c.buffer.toNat % 4096 + 32 * c.capacity.toNat then stop .pageCross c.address
            else is { e with access := none, current := some c, bufferOpen := true, state := .running }, q⟩) ∧
     (e.access = some (.reread address bus big) →
       exec (.rereadEnd none) ⟨d, q⟩ = .next ⟨d.engineError .bus e.lastDescriptor, q⟩ ∧
       ∀ bytes : Word,
         let next : Word :=
           if big then bytes.extractLsb' 0 8 ++ bytes.extractLsb' 8 8 ++ bytes.extractLsb' 16 8 ++ bytes.extractLsb' 24 8 else bytes
         ∀ c, e.current = some c →
         exec (.rereadEnd (some bytes)) ⟨d, q⟩ = .next
           ⟨if next = 0 then is { e with access := none }
            else
             (is { e with access := none, state := .fetching,
                          current := some { c with address := next, next := next } }).beginFetch, q⟩))
end

