-- ==== Sys2Proof/Laws/State.lean ====
section
/-! SUPPORT. One lemma per field per update: the four-place tables, and the named updates of the part block by block. -/

namespace Sys2Proof

/-- Reading the place just written. -/
@[simp] theorem PerPort.get_set_self {α : Type} (v : PerPort α) (p : Port) (a : α) : (v.set p a).get p = a := by
  fin_cases p <;> rfl

/-- Reading another place than the one written. -/
theorem PerPort.get_set_other {α : Type} (v : PerPort α) (p q : Port) (a : α) (h : q ≠ p) : (v.set p a).get q = v.get q := by
  fin_cases p <;> fin_cases q <;> first | rfl | exact absurd rfl h

/-- Reading after a write. -/
theorem PerPort.get_set {α : Type} (v : PerPort α) (p q : Port) (a : α) :
    (v.set p a).get q = if q = p then a else v.get q := by
  by_cases h : q = p
  · simp [h]
  · simp [h, PerPort.get_set_other v p q a h]

/-- Every place of a constant table. -/
@[simp] theorem PerPort.get_same {α : Type} (a : α) (p : Port) : (PerPort.same a).get p = a := by fin_cases p <;> rfl

/-- Every place of a mapped table. -/
@[simp] theorem PerPort.get_map {α β : Type} (v : PerPort α) (f : α → β) (p : Port) : (v.map f).get p = f (v.get p) := by
  fin_cases p <;> rfl

/-- Two tables with equal places are equal. -/
theorem PerPort.ext_get {α : Type} (v w : PerPort α) (h : ∀ p, v.get p = w.get p) : v = w := by
  obtain ⟨a, b, c, e⟩ := v
  obtain ⟨a', b', c', e'⟩ := w
  have h0 := h 0
  have h1 := h 1
  have h2 := h 2
  have h3 := h 3
  simp_all [PerPort.get]

/-- Writing back what a place holds changes nothing. -/
@[simp] theorem PerPort.set_get {α : Type} (v : PerPort α) (p : Port) : v.set p (v.get p) = v := by fin_cases p <;> rfl

/-- Of two writes of one place the later stands. -/
@[simp] theorem PerPort.set_set {α : Type} (v : PerPort α) (p : Port) (a b : α) : (v.set p a).set p b = v.set p b := by
  fin_cases p <;> rfl

namespace Machine

/-- The outcome of a command that leaves the part as given. -/
@[simp] theorem State.answer_eq (s : State) (d : Device) : s.answer d = .next ⟨d, s.pending⟩ := rfl

@[simp] theorem Device.onTrack_track (d : Device) (f : Track → Track) : (d.onTrack f).track = f d.track := rfl

@[simp] theorem Device.onStation_stations (d : Device) (p : Port) (f : Station → Station) :
    (d.onStation p f).stations = d.stations.set p (f (d.stations.get p)) := rfl

@[simp] theorem Device.onXfu_xfu (d : Device) (f : Xfu → Xfu) : (d.onXfu f).xfu = f d.xfu := rfl

@[simp] theorem Device.onPort_ports (d : Device) (p : Port) (f : LinkPort → LinkPort) :
    (d.onPort p f).ports = d.ports.set p (f (d.ports.get p)) := rfl

@[simp] theorem Device.onSmu_smu (d : Device) (f : Smu → Smu) : (d.onSmu f).smu = f d.smu := rfl

@[simp] theorem Device.onEngine_engine (d : Device) (f : Engine → Engine) : (d.onEngine f).engine = f d.engine := rfl

@[simp] theorem Device.onSbi_sbi (d : Device) (f : Sbi → Sbi) : (d.onSbi f).sbi = f d.sbi := rfl

@[simp] theorem Device.raise_notices (d : Device) (n : Notice) : (d.raise n).notices = d.notices.raise n := rfl

@[simp] theorem Device.onDeadlines_track (d : Device) (f : Deadlines → Deadlines) :
    (d.onDeadlines f).track = { d.track with deadlines := f d.track.deadlines } := rfl

@[simp] theorem Device.onTrackCounters_track (d : Device) (f : TrackCounters → TrackCounters) :
    (d.onTrackCounters f).track = { d.track with counters := f d.track.counters } := rfl

@[simp] theorem Device.setStationState_stations (d : Device) (p : Port) (s : StationState) :
    (d.setStationState p s).stations = d.stations.set p { d.stations.get p with state := s } := rfl

@[simp] theorem Device.onStationCounters_stations (d : Device) (p : Port) (f : StationCounters → StationCounters) :
    (d.onStationCounters p f).stations =
      d.stations.set p { d.stations.get p with counters := f (d.stations.get p).counters } := rfl

@[simp] theorem Device.sendLearning_smu (d : Device) (r : LearnRequest) :
    (d.sendLearning r).smu = { d.smu with learnQueue := d.smu.learnQueue ++ [r] } := rfl

@[simp] theorem Device.setStatus_sbi (d : Device) (code : Byte) (outcome : CommandOutcome) (reason : RefusalReason) :
    (d.setStatus code outcome reason).sbi = { d.sbi with status := ⟨code, outcome, reason⟩ } := rfl

@[simp] theorem Device.returnWord_sbi (d : Device) (w : Word) : (d.returnWord w).sbi = { d.sbi with readData := w } := rfl

/-- onTrack touches track, and no other block. -/
@[simp] theorem Device.onTrack_leaves (d : Device) (f : Track → Track) :
    (d.onTrack f).tb = d.tb ∧ (d.onTrack f).params = d.params ∧ (d.onTrack f).stations = d.stations ∧ (d.onTrack f).roll = d.roll ∧ (d.onTrack f).xfu = d.xfu ∧ (d.onTrack f).ports = d.ports ∧ (d.onTrack f).smu = d.smu ∧ (d.onTrack f).engine = d.engine ∧ (d.onTrack f).notices = d.notices ∧ (d.onTrack f).sbi = d.sbi := by simp [Device.onTrack]

/-- onStation touches stations, and no other block. -/
@[simp] theorem Device.onStation_leaves (d : Device) (p : Port) (f : Station → Station) :
    (d.onStation p f).tb = d.tb ∧ (d.onStation p f).track = d.track ∧ (d.onStation p f).params = d.params ∧ (d.onStation p f).roll = d.roll ∧ (d.onStation p f).xfu = d.xfu ∧ (d.onStation p f).ports = d.ports ∧ (d.onStation p f).smu = d.smu ∧ (d.onStation p f).engine = d.engine ∧ (d.onStation p f).notices = d.notices ∧ (d.onStation p f).sbi = d.sbi := by simp [Device.onStation]

/-- onXfu touches xfu, and no other block. -/
@[simp] theorem Device.onXfu_leaves (d : Device) (f : Xfu → Xfu) :
    (d.onXfu f).tb = d.tb ∧ (d.onXfu f).track = d.track ∧ (d.onXfu f).params = d.params ∧ (d.onXfu f).stations = d.stations ∧ (d.onXfu f).roll = d.roll ∧ (d.onXfu f).ports = d.ports ∧ (d.onXfu f).smu = d.smu ∧ (d.onXfu f).engine = d.engine ∧ (d.onXfu f).notices = d.notices ∧ (d.onXfu f).sbi = d.sbi := by simp [Device.onXfu]

/-- onPort touches ports, and no other block. -/
@[simp] theorem Device.onPort_leaves (d : Device) (p : Port) (f : LinkPort → LinkPort) :
    (d.onPort p f).tb = d.tb ∧ (d.onPort p f).track = d.track ∧ (d.onPort p f).params = d.params ∧ (d.onPort p f).stations = d.stations ∧ (d.onPort p f).roll = d.roll ∧ (d.onPort p f).xfu = d.xfu ∧ (d.onPort p f).smu = d.smu ∧ (d.onPort p f).engine = d.engine ∧ (d.onPort p f).notices = d.notices ∧ (d.onPort p f).sbi = d.sbi := by simp [Device.onPort]

/-- onSmu touches smu, and no other block. -/
@[simp] theorem Device.onSmu_leaves (d : Device) (f : Smu → Smu) :
    (d.onSmu f).tb = d.tb ∧ (d.onSmu f).track = d.track ∧ (d.onSmu f).params = d.params ∧ (d.onSmu f).stations = d.stations ∧ (d.onSmu f).roll = d.roll ∧ (d.onSmu f).xfu = d.xfu ∧ (d.onSmu f).ports = d.ports ∧ (d.onSmu f).engine = d.engine ∧ (d.onSmu f).notices = d.notices ∧ (d.onSmu f).sbi = d.sbi := by simp [Device.onSmu]

/-- onEngine touches engine, and no other block. -/
@[simp] theorem Device.onEngine_leaves (d : Device) (f : Engine → Engine) :
    (d.onEngine f).tb = d.tb ∧ (d.onEngine f).track = d.track ∧ (d.onEngine f).params = d.params ∧ (d.onEngine f).stations = d.stations ∧ (d.onEngine f).roll = d.roll ∧ (d.onEngine f).xfu = d.xfu ∧ (d.onEngine f).ports = d.ports ∧ (d.onEngine f).smu = d.smu ∧ (d.onEngine f).notices = d.notices ∧ (d.onEngine f).sbi = d.sbi := by simp [Device.onEngine]

/-- onSbi touches sbi, and no other block. -/
@[simp] theorem Device.onSbi_leaves (d : Device) (f : Sbi → Sbi) :
    (d.onSbi f).tb = d.tb ∧ (d.onSbi f).track = d.track ∧ (d.onSbi f).params = d.params ∧ (d.onSbi f).stations = d.stations ∧ (d.onSbi f).roll = d.roll ∧ (d.onSbi f).xfu = d.xfu ∧ (d.onSbi f).ports = d.ports ∧ (d.onSbi f).smu = d.smu ∧ (d.onSbi f).engine = d.engine ∧ (d.onSbi f).notices = d.notices := by simp [Device.onSbi]

/-- raise touches notices, and no other block. -/
@[simp] theorem Device.raise_leaves (d : Device) (n : Notice) :
    (d.raise n).tb = d.tb ∧ (d.raise n).track = d.track ∧ (d.raise n).params = d.params ∧ (d.raise n).stations = d.stations ∧ (d.raise n).roll = d.roll ∧ (d.raise n).xfu = d.xfu ∧ (d.raise n).ports = d.ports ∧ (d.raise n).smu = d.smu ∧ (d.raise n).engine = d.engine ∧ (d.raise n).sbi = d.sbi := by simp [Device.raise]

/-- onDeadlines touches track, and no other block. -/
@[simp] theorem Device.onDeadlines_leaves (d : Device) (f : Deadlines → Deadlines) :
    (d.onDeadlines f).tb = d.tb ∧ (d.onDeadlines f).params = d.params ∧ (d.onDeadlines f).stations = d.stations ∧ (d.onDeadlines f).roll = d.roll ∧ (d.onDeadlines f).xfu = d.xfu ∧ (d.onDeadlines f).ports = d.ports ∧ (d.onDeadlines f).smu = d.smu ∧ (d.onDeadlines f).engine = d.engine ∧ (d.onDeadlines f).notices = d.notices ∧ (d.onDeadlines f).sbi = d.sbi := by
  simp [Device.onDeadlines]

/-- onTrackCounters touches track, and no other block. -/
@[simp] theorem Device.onTrackCounters_leaves (d : Device) (f : TrackCounters → TrackCounters) :
    (d.onTrackCounters f).tb = d.tb ∧ (d.onTrackCounters f).params = d.params ∧ (d.onTrackCounters f).stations = d.stations ∧ (d.onTrackCounters f).roll = d.roll ∧ (d.onTrackCounters f).xfu = d.xfu ∧ (d.onTrackCounters f).ports = d.ports ∧ (d.onTrackCounters f).smu = d.smu ∧ (d.onTrackCounters f).engine = d.engine ∧ (d.onTrackCounters f).notices = d.notices ∧ (d.onTrackCounters f).sbi = d.sbi := by
  simp [Device.onTrackCounters]

/-- setStationState touches stations, and no other block. -/
@[simp] theorem Device.setStationState_leaves (d : Device) (p : Port) (s : StationState) :
    (d.setStationState p s).tb = d.tb ∧ (d.setStationState p s).track = d.track ∧ (d.setStationState p s).params = d.params ∧ (d.setStationState p s).roll = d.roll ∧ (d.setStationState p s).xfu = d.xfu ∧ (d.setStationState p s).ports = d.ports ∧ (d.setStationState p s).smu = d.smu ∧ (d.setStationState p s).engine = d.engine ∧ (d.setStationState p s).notices = d.notices ∧ (d.setStationState p s).sbi = d.sbi := by
  simp [Device.setStationState]

/-- sendLearning touches smu, and no other block. -/
@[simp] theorem Device.sendLearning_leaves (d : Device) (r : LearnRequest) :
    (d.sendLearning r).tb = d.tb ∧ (d.sendLearning r).track = d.track ∧ (d.sendLearning r).params = d.params ∧ (d.sendLearning r).stations = d.stations ∧ (d.sendLearning r).roll = d.roll ∧ (d.sendLearning r).xfu = d.xfu ∧ (d.sendLearning r).ports = d.ports ∧ (d.sendLearning r).engine = d.engine ∧ (d.sendLearning r).notices = d.notices ∧ (d.sendLearning r).sbi = d.sbi := by
  simp [Device.sendLearning]

/-- setStatus touches sbi, and no other block. -/
@[simp] theorem Device.setStatus_leaves (d : Device) (code : Byte) (outcome : CommandOutcome) (reason : RefusalReason) :
    (d.setStatus code outcome reason).tb = d.tb ∧ (d.setStatus code outcome reason).track = d.track ∧ (d.setStatus code outcome reason).params = d.params ∧ (d.setStatus code outcome reason).stations = d.stations ∧ (d.setStatus code outcome reason).roll = d.roll ∧ (d.setStatus code outcome reason).xfu = d.xfu ∧ (d.setStatus code outcome reason).ports = d.ports ∧ (d.setStatus code outcome reason).smu = d.smu ∧ (d.setStatus code outcome reason).engine = d.engine ∧ (d.setStatus code outcome reason).notices = d.notices := by
  simp [Device.setStatus]

/-- onStationCounters touches stations, and no other block. -/
@[simp] theorem Device.onStationCounters_leaves (d : Device) (p : Port) (f : StationCounters → StationCounters) :
    (d.onStationCounters p f).tb = d.tb ∧ (d.onStationCounters p f).track = d.track ∧ (d.onStationCounters p f).params = d.params ∧ (d.onStationCounters p f).roll = d.roll ∧ (d.onStationCounters p f).xfu = d.xfu ∧ (d.onStationCounters p f).ports = d.ports ∧ (d.onStationCounters p f).smu = d.smu ∧ (d.onStationCounters p f).engine = d.engine ∧ (d.onStationCounters p f).notices = d.notices ∧ (d.onStationCounters p f).sbi = d.sbi := by
  simp [Device.onStationCounters]

/-- returnWord touches sbi, and no other block. -/
@[simp] theorem Device.returnWord_leaves (d : Device) (w : Word) :
    (d.returnWord w).tb = d.tb ∧ (d.returnWord w).track = d.track ∧ (d.returnWord w).params = d.params ∧ (d.returnWord w).stations = d.stations ∧ (d.returnWord w).roll = d.roll ∧ (d.returnWord w).xfu = d.xfu ∧ (d.returnWord w).ports = d.ports ∧ (d.returnWord w).smu = d.smu ∧ (d.returnWord w).engine = d.engine ∧ (d.returnWord w).notices = d.notices := by
  simp [Device.returnWord]

end Machine

end Sys2Proof
end

