-- ==== Sys2Proof/Laws/Leaves.lean ====
section
/-! SUPPORT. For every shared operation, the blocks it leaves alone. -/

namespace Sys2Proof.Machine

/-- engineError touches engine and notices, and no other block. -/
@[simp] theorem Device.engineError_leaves (d : Device) (code : EngineError) (address : Word) :
    (d.engineError code address).tb = d.tb ∧ (d.engineError code address).track = d.track ∧ (d.engineError code address).params = d.params ∧ (d.engineError code address).stations = d.stations ∧ (d.engineError code address).roll = d.roll ∧ (d.engineError code address).xfu = d.xfu ∧ (d.engineError code address).ports = d.ports ∧ (d.engineError code address).smu = d.smu ∧ (d.engineError code address).sbi = d.sbi := by
  simp [Device.engineError]

/-- reportError touches engine, and no other block. -/
@[simp] theorem Device.reportError_leaves (d : Device) (c : Descriptor) (code : EngineError) :
    (d.reportError c code).tb = d.tb ∧ (d.reportError c code).track = d.track ∧ (d.reportError c code).params = d.params ∧ (d.reportError c code).stations = d.stations ∧ (d.reportError c code).roll = d.roll ∧ (d.reportError c code).xfu = d.xfu ∧ (d.reportError c code).ports = d.ports ∧ (d.reportError c code).smu = d.smu ∧ (d.reportError c code).notices = d.notices ∧ (d.reportError c code).sbi = d.sbi := by
  unfold Device.reportError
  split <;> simp

/-- beginFetch touches engine and notices, and no other block. -/
@[simp] theorem Device.beginFetch_leaves (d : Device) :
    d.beginFetch.tb = d.tb ∧ d.beginFetch.track = d.track ∧ d.beginFetch.params = d.params ∧ d.beginFetch.stations = d.stations ∧ d.beginFetch.roll = d.roll ∧ d.beginFetch.xfu = d.xfu ∧ d.beginFetch.ports = d.ports ∧ d.beginFetch.smu = d.smu ∧ d.beginFetch.sbi = d.sbi := by
  unfold Device.beginFetch
  repeat' split
  all_goals simp

/-- beginWriteback touches engine and notices, and no other block. -/
@[simp] theorem Device.beginWriteback_leaves (d : Device) (purpose : WritebackPurpose) (status : CompletionStatus) (c : Descriptor) :
    (d.beginWriteback purpose status c).tb = d.tb ∧ (d.beginWriteback purpose status c).track = d.track ∧ (d.beginWriteback purpose status c).params = d.params ∧ (d.beginWriteback purpose status c).stations = d.stations ∧ (d.beginWriteback purpose status c).roll = d.roll ∧ (d.beginWriteback purpose status c).xfu = d.xfu ∧ (d.beginWriteback purpose status c).ports = d.ports ∧ (d.beginWriteback purpose status c).smu = d.smu ∧ (d.beginWriteback purpose status c).sbi = d.sbi := by
  unfold Device.beginWriteback
  split <;> try split
  all_goals simp

/-- closeBuffer touches engine and notices, and no other block. -/
@[simp] theorem Device.closeBuffer_leaves (d : Device) (status : CompletionStatus) :
    (d.closeBuffer status).tb = d.tb ∧ (d.closeBuffer status).track = d.track ∧ (d.closeBuffer status).params = d.params ∧ (d.closeBuffer status).stations = d.stations ∧ (d.closeBuffer status).roll = d.roll ∧ (d.closeBuffer status).xfu = d.xfu ∧ (d.closeBuffer status).ports = d.ports ∧ (d.closeBuffer status).smu = d.smu ∧ (d.closeBuffer status).sbi = d.sbi := by
  unfold Device.closeBuffer
  split <;> simp

/-- flush touches engine and notices, and no other block. -/
@[simp] theorem Device.flush_leaves (d : Device) :
    d.flush.tb = d.tb ∧ d.flush.track = d.track ∧ d.flush.params = d.params ∧ d.flush.stations = d.stations ∧ d.flush.roll = d.roll ∧ d.flush.xfu = d.xfu ∧ d.flush.ports = d.ports ∧ d.flush.smu = d.smu ∧ d.flush.sbi = d.sbi := by
  unfold Device.flush
  repeat' split
  all_goals simp

/-- takeStart touches engine and notices, and no other block. -/
@[simp] theorem Device.takeStart_leaves (d : Device) (address : Word) :
    (d.takeStart address).tb = d.tb ∧ (d.takeStart address).track = d.track ∧ (d.takeStart address).params = d.params ∧ (d.takeStart address).stations = d.stations ∧ (d.takeStart address).roll = d.roll ∧ (d.takeStart address).xfu = d.xfu ∧ (d.takeStart address).ports = d.ports ∧ (d.takeStart address).smu = d.smu ∧ (d.takeStart address).sbi = d.sbi := by
  unfold Device.takeStart
  split <;> simp

/-- takeEnable touches engine, and no other block. -/
@[simp] theorem Device.takeEnable_leaves (d : Device) :
    d.takeEnable.tb = d.tb ∧ d.takeEnable.track = d.track ∧ d.takeEnable.params = d.params ∧ d.takeEnable.stations = d.stations ∧ d.takeEnable.roll = d.roll ∧ d.takeEnable.xfu = d.xfu ∧ d.takeEnable.ports = d.ports ∧ d.takeEnable.smu = d.smu ∧ d.takeEnable.notices = d.notices ∧ d.takeEnable.sbi = d.sbi := by
  simp [Device.takeEnable]

/-- takeDisable touches engine and notices, and no other block. -/
@[simp] theorem Device.takeDisable_leaves (d : Device) :
    d.takeDisable.tb = d.tb ∧ d.takeDisable.track = d.track ∧ d.takeDisable.params = d.params ∧ d.takeDisable.stations = d.stations ∧ d.takeDisable.roll = d.roll ∧ d.takeDisable.xfu = d.xfu ∧ d.takeDisable.ports = d.ports ∧ d.takeDisable.smu = d.smu ∧ d.takeDisable.sbi = d.sbi := by
  unfold Device.takeDisable
  repeat' split
  all_goals simp

/-- takeEngineReset touches engine, and no other block. -/
@[simp] theorem Device.takeEngineReset_leaves (d : Device) :
    d.takeEngineReset.tb = d.tb ∧ d.takeEngineReset.track = d.track ∧ d.takeEngineReset.params = d.params ∧ d.takeEngineReset.stations = d.stations ∧ d.takeEngineReset.roll = d.roll ∧ d.takeEngineReset.xfu = d.xfu ∧ d.takeEngineReset.ports = d.ports ∧ d.takeEngineReset.smu = d.smu ∧ d.takeEngineReset.notices = d.notices ∧ d.takeEngineReset.sbi = d.sbi := by
  simp [Device.takeEngineReset]

/-- dropHeldStart touches sbi, and no other block. -/
@[simp] theorem Device.dropHeldStart_leaves (d : Device) :
    d.dropHeldStart.tb = d.tb ∧ d.dropHeldStart.track = d.track ∧ d.dropHeldStart.params = d.params ∧ d.dropHeldStart.stations = d.stations ∧ d.dropHeldStart.roll = d.roll ∧ d.dropHeldStart.xfu = d.xfu ∧ d.dropHeldStart.ports = d.ports ∧ d.dropHeldStart.smu = d.smu ∧ d.dropHeldStart.engine = d.engine ∧ d.dropHeldStart.notices = d.notices := by
  unfold Device.dropHeldStart
  split <;> simp

/-- takeHeld touches engine, notices and sbi, and no other block. -/
@[simp] theorem Device.takeHeld_leaves (d : Device) :
    d.takeHeld.tb = d.tb ∧ d.takeHeld.track = d.track ∧ d.takeHeld.params = d.params ∧ d.takeHeld.stations = d.stations ∧ d.takeHeld.roll = d.roll ∧ d.takeHeld.xfu = d.xfu ∧ d.takeHeld.ports = d.ports ∧ d.takeHeld.smu = d.smu := by
  unfold Device.takeHeld
  split <;> try split
  all_goals simp

/-- storeSettings touches engine, and no other block. -/
@[simp] theorem Device.storeSettings_leaves (d : Device) (bigEndian flushOnLost : Bool) :
    (d.storeSettings bigEndian flushOnLost).tb = d.tb ∧ (d.storeSettings bigEndian flushOnLost).track = d.track ∧ (d.storeSettings bigEndian flushOnLost).params = d.params ∧ (d.storeSettings bigEndian flushOnLost).stations = d.stations ∧ (d.storeSettings bigEndian flushOnLost).roll = d.roll ∧ (d.storeSettings bigEndian flushOnLost).xfu = d.xfu ∧ (d.storeSettings bigEndian flushOnLost).ports = d.ports ∧ (d.storeSettings bigEndian flushOnLost).smu = d.smu ∧ (d.storeSettings bigEndian flushOnLost).notices = d.notices ∧ (d.storeSettings bigEndian flushOnLost).sbi = d.sbi := by
  simp [Device.storeSettings]

/-- enableAction touches engine, and no other block. -/
@[simp] theorem Device.enableAction_leaves (d : Device) :
    d.enableAction.tb = d.tb ∧ d.enableAction.track = d.track ∧ d.enableAction.params = d.params ∧ d.enableAction.stations = d.stations ∧ d.enableAction.roll = d.roll ∧ d.enableAction.xfu = d.xfu ∧ d.enableAction.ports = d.ports ∧ d.enableAction.smu = d.smu ∧ d.enableAction.notices = d.notices ∧ d.enableAction.sbi = d.sbi := by
  unfold Device.enableAction
  split <;> try split
  all_goals simp

/-- disableAction touches engine, notices and sbi, and no other block. -/
@[simp] theorem Device.disableAction_leaves (d : Device) :
    d.disableAction.tb = d.tb ∧ d.disableAction.track = d.track ∧ d.disableAction.params = d.params ∧ d.disableAction.stations = d.stations ∧ d.disableAction.roll = d.roll ∧ d.disableAction.xfu = d.xfu ∧ d.disableAction.ports = d.ports ∧ d.disableAction.smu = d.smu := by
  unfold Device.disableAction
  split <;> try split
  all_goals simp

/-- engineResetAction touches engine and sbi, and no other block. -/
@[simp] theorem Device.engineResetAction_leaves (d : Device) :
    d.engineResetAction.tb = d.tb ∧ d.engineResetAction.track = d.track ∧ d.engineResetAction.params = d.params ∧ d.engineResetAction.stations = d.stations ∧ d.engineResetAction.roll = d.roll ∧ d.engineResetAction.xfu = d.xfu ∧ d.engineResetAction.ports = d.ports ∧ d.engineResetAction.smu = d.smu ∧ d.engineResetAction.notices = d.notices := by
  unfold Device.engineResetAction
  split <;> simp

/-- engineControl touches engine, notices and sbi, and no other block. -/
@[simp] theorem Device.engineControl_leaves (d : Device) (w : Word) :
    (d.engineControl w).tb = d.tb ∧ (d.engineControl w).track = d.track ∧ (d.engineControl w).params = d.params ∧ (d.engineControl w).stations = d.stations ∧ (d.engineControl w).roll = d.roll ∧ (d.engineControl w).xfu = d.xfu ∧ (d.engineControl w).ports = d.ports ∧ (d.engineControl w).smu = d.smu := by
  unfold Device.engineControl
  repeat' split
  all_goals simp

/-- beginRecordWrite touches engine and notices, and no other block. -/
@[simp] theorem Device.beginRecordWrite_leaves (d : Device) :
    d.beginRecordWrite.tb = d.tb ∧ d.beginRecordWrite.track = d.track ∧ d.beginRecordWrite.params = d.params ∧ d.beginRecordWrite.stations = d.stations ∧ d.beginRecordWrite.roll = d.roll ∧ d.beginRecordWrite.xfu = d.xfu ∧ d.beginRecordWrite.ports = d.ports ∧ d.beginRecordWrite.smu = d.smu ∧ d.beginRecordWrite.sbi = d.sbi := by
  simp only [Device.beginRecordWrite]
  repeat' split
  all_goals simp

/-- recordLanded touches engine and notices, and no other block. -/
@[simp] theorem Device.recordLanded_leaves (d : Device) (r : Record) (rest : List Record) (c : Descriptor) :
    (d.recordLanded r rest c).tb = d.tb ∧ (d.recordLanded r rest c).track = d.track ∧ (d.recordLanded r rest c).params = d.params ∧ (d.recordLanded r rest c).stations = d.stations ∧ (d.recordLanded r rest c).roll = d.roll ∧ (d.recordLanded r rest c).xfu = d.xfu ∧ (d.recordLanded r rest c).ports = d.ports ∧ (d.recordLanded r rest c).smu = d.smu ∧ (d.recordLanded r rest c).sbi = d.sbi := by
  simp only [Device.recordLanded]
  repeat' split
  all_goals simp

/-- endRecordWrite touches engine, notices and sbi, and no other block. -/
@[simp] theorem Device.endRecordWrite_leaves (d : Device) (ok : Bool) :
    (d.endRecordWrite ok).tb = d.tb ∧ (d.endRecordWrite ok).track = d.track ∧ (d.endRecordWrite ok).params = d.params ∧ (d.endRecordWrite ok).stations = d.stations ∧ (d.endRecordWrite ok).roll = d.roll ∧ (d.endRecordWrite ok).xfu = d.xfu ∧ (d.endRecordWrite ok).ports = d.ports ∧ (d.endRecordWrite ok).smu = d.smu := by
  unfold Device.endRecordWrite
  split <;> try split
  all_goals simp

/-- followChain touches engine and notices, and no other block. -/
@[simp] theorem Device.followChain_leaves (d : Device) (descriptor : Word) :
    (d.followChain descriptor).tb = d.tb ∧ (d.followChain descriptor).track = d.track ∧ (d.followChain descriptor).params = d.params ∧ (d.followChain descriptor).stations = d.stations ∧ (d.followChain descriptor).roll = d.roll ∧ (d.followChain descriptor).xfu = d.xfu ∧ (d.followChain descriptor).ports = d.ports ∧ (d.followChain descriptor).smu = d.smu ∧ (d.followChain descriptor).sbi = d.sbi := by
  unfold Device.followChain
  split <;> try split
  all_goals simp

/-- writebackEnded touches engine and notices, and no other block. -/
@[simp] theorem Device.writebackEnded_leaves (d : Device) (purpose : WritebackPurpose) (descriptor address : Word) (ok : Bool) :
    (d.writebackEnded purpose descriptor address ok).tb = d.tb ∧ (d.writebackEnded purpose descriptor address ok).track = d.track ∧ (d.writebackEnded purpose descriptor address ok).params = d.params ∧ (d.writebackEnded purpose descriptor address ok).stations = d.stations ∧ (d.writebackEnded purpose descriptor address ok).roll = d.roll ∧ (d.writebackEnded purpose descriptor address ok).xfu = d.xfu ∧ (d.writebackEnded purpose descriptor address ok).ports = d.ports ∧ (d.writebackEnded purpose descriptor address ok).smu = d.smu ∧ (d.writebackEnded purpose descriptor address ok).sbi = d.sbi := by
  unfold Device.writebackEnded
  split <;> simp

/-- endWriteback touches engine, notices and sbi, and no other block. -/
@[simp] theorem Device.endWriteback_leaves (d : Device) (ok : Bool) :
    (d.endWriteback ok).tb = d.tb ∧ (d.endWriteback ok).track = d.track ∧ (d.endWriteback ok).params = d.params ∧ (d.endWriteback ok).stations = d.stations ∧ (d.endWriteback ok).roll = d.roll ∧ (d.endWriteback ok).xfu = d.xfu ∧ (d.endWriteback ok).ports = d.ports ∧ (d.endWriteback ok).smu = d.smu := by
  unfold Device.endWriteback
  split <;> simp

/-- endDescriptorRead touches engine and notices, and no other block. -/
@[simp] theorem Device.endDescriptorRead_leaves (d : Device) (answer : Option (BitVec 128)) :
    (d.endDescriptorRead answer).tb = d.tb ∧ (d.endDescriptorRead answer).track = d.track ∧ (d.endDescriptorRead answer).params = d.params ∧ (d.endDescriptorRead answer).stations = d.stations ∧ (d.endDescriptorRead answer).roll = d.roll ∧ (d.endDescriptorRead answer).xfu = d.xfu ∧ (d.endDescriptorRead answer).ports = d.ports ∧ (d.endDescriptorRead answer).smu = d.smu ∧ (d.endDescriptorRead answer).sbi = d.sbi := by
  simp only [Device.endDescriptorRead]
  repeat' split
  all_goals simp

/-- endReread touches engine and notices, and no other block. -/
@[simp] theorem Device.endReread_leaves (d : Device) (answer : Option Word) :
    (d.endReread answer).tb = d.tb ∧ (d.endReread answer).track = d.track ∧ (d.endReread answer).params = d.params ∧ (d.endReread answer).stations = d.stations ∧ (d.endReread answer).roll = d.roll ∧ (d.endReread answer).xfu = d.xfu ∧ (d.endReread answer).ports = d.ports ∧ (d.endReread answer).smu = d.smu ∧ (d.endReread answer).sbi = d.sbi := by
  simp only [Device.endReread]
  repeat' split
  all_goals simp

/-- produce touches engine and track, and no other block. -/
@[simp] theorem Device.produce_leaves (d : Device) (r : Record) :
    (d.produce r).tb = d.tb ∧ (d.produce r).params = d.params ∧ (d.produce r).stations = d.stations ∧ (d.produce r).roll = d.roll ∧ (d.produce r).xfu = d.xfu ∧ (d.produce r).ports = d.ports ∧ (d.produce r).smu = d.smu ∧ (d.produce r).notices = d.notices ∧ (d.produce r).sbi = d.sbi := by
  simp [Device.produce]

/-- changeState touches engine, notices and track, and no other block. -/
@[simp] theorem Device.changeState_leaves (d : Device) (after : TrackState) (sat : Bool) :
    (d.changeState after sat).tb = d.tb ∧ (d.changeState after sat).params = d.params ∧ (d.changeState after sat).stations = d.stations ∧ (d.changeState after sat).roll = d.roll ∧ (d.changeState after sat).xfu = d.xfu ∧ (d.changeState after sat).ports = d.ports ∧ (d.changeState after sat).smu = d.smu ∧ (d.changeState after sat).sbi = d.sbi := by
  simp [Device.changeState]

/-- reseed touches engine and track, and no other block. -/
@[simp] theorem Device.reseed_leaves (d : Device) (r : TrackResult) (after : TrackState) :
    (d.reseed r after).tb = d.tb ∧ (d.reseed r after).params = d.params ∧ (d.reseed r after).stations = d.stations ∧ (d.reseed r after).roll = d.roll ∧ (d.reseed r after).xfu = d.xfu ∧ (d.reseed r after).ports = d.ports ∧ (d.reseed r after).smu = d.smu ∧ (d.reseed r after).notices = d.notices ∧ (d.reseed r after).sbi = d.sbi := by
  simp [Device.reseed]

/-- update touches engine and track, and no other block. -/
@[simp] theorem Device.update_leaves (d : Device) (r : TrackResult) (after : TrackState) :
    (d.update r after).tb = d.tb ∧ (d.update r after).params = d.params ∧ (d.update r after).stations = d.stations ∧ (d.update r after).roll = d.roll ∧ (d.update r after).xfu = d.xfu ∧ (d.update r after).ports = d.ports ∧ (d.update r after).smu = d.smu ∧ (d.update r after).notices = d.notices ∧ (d.update r after).sbi = d.sbi := by
  simp [Device.update]

/-- askScan touches smu, and no other block. -/
@[simp] theorem Device.askScan_leaves (d : Device) (s : Option Scan) :
    (d.askScan s).tb = d.tb ∧ (d.askScan s).track = d.track ∧ (d.askScan s).params = d.params ∧ (d.askScan s).stations = d.stations ∧ (d.askScan s).roll = d.roll ∧ (d.askScan s).xfu = d.xfu ∧ (d.askScan s).ports = d.ports ∧ (d.askScan s).engine = d.engine ∧ (d.askScan s).notices = d.notices ∧ (d.askScan s).sbi = d.sbi := by
  unfold Device.askScan
  split <;> simp

/-- countStale touches track, and no other block. -/
@[simp] theorem Device.countStale_leaves (d : Device) :
    d.countStale.tb = d.tb ∧ d.countStale.params = d.params ∧ d.countStale.stations = d.stations ∧ d.countStale.roll = d.roll ∧ d.countStale.xfu = d.xfu ∧ d.countStale.ports = d.ports ∧ d.countStale.smu = d.smu ∧ d.countStale.engine = d.engine ∧ d.countStale.notices = d.notices ∧ d.countStale.sbi = d.sbi := by
  simp [Device.countStale]

/-- outlier touches engine and track, and no other block. -/
@[simp] theorem Device.outlier_leaves (d : Device) (r : TrackResult) :
    (d.outlier r).tb = d.tb ∧ (d.outlier r).params = d.params ∧ (d.outlier r).stations = d.stations ∧ (d.outlier r).roll = d.roll ∧ (d.outlier r).xfu = d.xfu ∧ (d.outlier r).ports = d.ports ∧ (d.outlier r).smu = d.smu ∧ (d.outlier r).notices = d.notices ∧ (d.outlier r).sbi = d.sbi := by
  unfold Device.outlier
  split <;> simp

/-- observe touches engine, smu and track, and no other block. -/
@[simp] theorem Device.observe_leaves (d : Device) (r : TrackResult) :
    (d.observe r).tb = d.tb ∧ (d.observe r).params = d.params ∧ (d.observe r).stations = d.stations ∧ (d.observe r).roll = d.roll ∧ (d.observe r).xfu = d.xfu ∧ (d.observe r).ports = d.ports ∧ (d.observe r).notices = d.notices ∧ (d.observe r).sbi = d.sbi := by
  simp only [Device.observe]
  repeat' split
  all_goals simp

/-- applyLock touches engine and track, and no other block. -/
@[simp] theorem Device.applyLock_leaves (d : Device) (r : TrackResult) (after : TrackState) :
    (d.applyLock r after).tb = d.tb ∧ (d.applyLock r after).params = d.params ∧ (d.applyLock r after).stations = d.stations ∧ (d.applyLock r after).roll = d.roll ∧ (d.applyLock r after).xfu = d.xfu ∧ (d.applyLock r after).ports = d.ports ∧ (d.applyLock r after).smu = d.smu ∧ (d.applyLock r after).notices = d.notices ∧ (d.applyLock r after).sbi = d.sbi := by
  unfold Device.applyLock
  split <;> simp

/-- endRole touches ports and track, and no other block. -/
@[simp] theorem Device.endRole_leaves (d : Device) (p : Port) :
    (d.endRole p).tb = d.tb ∧ (d.endRole p).params = d.params ∧ (d.endRole p).stations = d.stations ∧ (d.endRole p).roll = d.roll ∧ (d.endRole p).xfu = d.xfu ∧ (d.endRole p).smu = d.smu ∧ (d.endRole p).engine = d.engine ∧ (d.endRole p).notices = d.notices ∧ (d.endRole p).sbi = d.sbi := by
  simp [Device.endRole]

/-- standDown touches ports, stations and track, and no other block. -/
@[simp] theorem Device.standDown_leaves (d : Device) (p : Port) :
    (d.standDown p).tb = d.tb ∧ (d.standDown p).params = d.params ∧ (d.standDown p).roll = d.roll ∧ (d.standDown p).xfu = d.xfu ∧ (d.standDown p).smu = d.smu ∧ (d.standDown p).engine = d.engine ∧ (d.standDown p).notices = d.notices ∧ (d.standDown p).sbi = d.sbi := by
  simp [Device.standDown]

/-- sendRelease touches ports, and no other block. -/
@[simp] theorem Device.sendRelease_leaves (d : Device) (p : Port) (reason : ReleaseReason) :
    (d.sendRelease p reason).tb = d.tb ∧ (d.sendRelease p reason).track = d.track ∧ (d.sendRelease p reason).params = d.params ∧ (d.sendRelease p reason).stations = d.stations ∧ (d.sendRelease p reason).roll = d.roll ∧ (d.sendRelease p reason).xfu = d.xfu ∧ (d.sendRelease p reason).smu = d.smu ∧ (d.sendRelease p reason).engine = d.engine ∧ (d.sendRelease p reason).notices = d.notices ∧ (d.sendRelease p reason).sbi = d.sbi := by
  unfold Device.sendRelease
  split <;> simp

/-- releaseStation touches ports, stations and track, and no other block. -/
@[simp] theorem Device.releaseStation_leaves (d : Device) (p : Port) (reason : ReleaseReason) :
    (d.releaseStation p reason).tb = d.tb ∧ (d.releaseStation p reason).params = d.params ∧ (d.releaseStation p reason).roll = d.roll ∧ (d.releaseStation p reason).xfu = d.xfu ∧ (d.releaseStation p reason).smu = d.smu ∧ (d.releaseStation p reason).engine = d.engine ∧ (d.releaseStation p reason).notices = d.notices ∧ (d.releaseStation p reason).sbi = d.sbi := by
  simp [Device.releaseStation]

/-- releaseSearching touches ports, stations and track, and no other block. -/
@[simp] theorem Device.releaseSearching_leaves (d : Device) (reason : ReleaseReason) (except_ : Option Port) :
    (d.releaseSearching reason except_).tb = d.tb ∧ (d.releaseSearching reason except_).params = d.params ∧ (d.releaseSearching reason except_).roll = d.roll ∧ (d.releaseSearching reason except_).xfu = d.xfu ∧ (d.releaseSearching reason except_).smu = d.smu ∧ (d.releaseSearching reason except_).engine = d.engine ∧ (d.releaseSearching reason except_).notices = d.notices ∧ (d.releaseSearching reason except_).sbi = d.sbi := by
  simp only [Device.releaseSearching, allPorts, List.foldl_cons, List.foldl_nil]
  split_ifs <;> simp

/-- placeOrder touches ports and track, and no other block. -/
@[simp] theorem Device.placeOrder_leaves (d : Device) (p : Port) (kind : OrderKind) (f : OutFrame) :
    (d.placeOrder p kind f).tb = d.tb ∧ (d.placeOrder p kind f).params = d.params ∧ (d.placeOrder p kind f).stations = d.stations ∧ (d.placeOrder p kind f).roll = d.roll ∧ (d.placeOrder p kind f).xfu = d.xfu ∧ (d.placeOrder p kind f).smu = d.smu ∧ (d.placeOrder p kind f).engine = d.engine ∧ (d.placeOrder p kind f).notices = d.notices ∧ (d.placeOrder p kind f).sbi = d.sbi := by
  simp [Device.placeOrder]

/-- sendSearch touches ports, stations and track, and no other block. -/
@[simp] theorem Device.sendSearch_leaves (d : Device) (p : Port) (target : Option (Vec3 × Nat)) :
    (d.sendSearch p target).tb = d.tb ∧ (d.sendSearch p target).params = d.params ∧ (d.sendSearch p target).roll = d.roll ∧ (d.sendSearch p target).xfu = d.xfu ∧ (d.sendSearch p target).smu = d.smu ∧ (d.sendSearch p target).engine = d.engine ∧ (d.sendSearch p target).notices = d.notices ∧ (d.sendSearch p target).sbi = d.sbi := by
  simp [Device.sendSearch]

/-- enterLost touches engine, notices and track, and no other block. -/
@[simp] theorem Device.enterLost_leaves (d : Device) :
    d.enterLost.tb = d.tb ∧ d.enterLost.params = d.params ∧ d.enterLost.stations = d.stations ∧ d.enterLost.roll = d.roll ∧ d.enterLost.xfu = d.xfu ∧ d.enterLost.ports = d.ports ∧ d.enterLost.smu = d.smu ∧ d.enterLost.sbi = d.sbi := by
  simp only [Device.enterLost]
  split <;> simp

/-- endCheck touches engine, notices and track, and no other block. -/
@[simp] theorem Device.endCheck_leaves (d : Device) :
    d.endCheck.tb = d.tb ∧ d.endCheck.params = d.params ∧ d.endCheck.stations = d.stations ∧ d.endCheck.roll = d.roll ∧ d.endCheck.xfu = d.xfu ∧ d.endCheck.ports = d.ports ∧ d.endCheck.smu = d.smu ∧ d.endCheck.sbi = d.sbi := by
  unfold Device.endCheck
  split <;> simp

/-- placeSearches touches track and xfu, and no other block. -/
@[simp] theorem Device.placeSearches_leaves (d : Device) (point : Vec3) :
    (d.placeSearches point).tb = d.tb ∧ (d.placeSearches point).params = d.params ∧ (d.placeSearches point).stations = d.stations ∧ (d.placeSearches point).roll = d.roll ∧ (d.placeSearches point).ports = d.ports ∧ (d.placeSearches point).smu = d.smu ∧ (d.placeSearches point).engine = d.engine ∧ (d.placeSearches point).notices = d.notices ∧ (d.placeSearches point).sbi = d.sbi := by
  simp only [Device.placeSearches, allPorts, List.foldl_cons, List.foldl_nil]
  split_ifs <;> simp

/-- dropOwner touches ports, stations and track, and no other block. -/
@[simp] theorem Device.dropOwner_leaves (d : Device) :
    d.dropOwner.tb = d.tb ∧ d.dropOwner.params = d.params ∧ d.dropOwner.roll = d.roll ∧ d.dropOwner.xfu = d.xfu ∧ d.dropOwner.smu = d.smu ∧ d.dropOwner.engine = d.engine ∧ d.dropOwner.notices = d.notices ∧ d.dropOwner.sbi = d.sbi := by
  unfold Device.dropOwner
  split <;> simp

/-- enterSearch touches engine, notices, ports, stations, track and xfu, and no other block. -/
@[simp] theorem Device.enterSearch_leaves (d : Device) :
    d.enterSearch.tb = d.tb ∧ d.enterSearch.params = d.params ∧ d.enterSearch.roll = d.roll ∧ d.enterSearch.smu = d.smu ∧ d.enterSearch.sbi = d.sbi := by
  simp [Device.enterSearch]

/-- goBlind touches track, and no other block. -/
@[simp] theorem Device.goBlind_leaves (d : Device) :
    d.goBlind.tb = d.tb ∧ d.goBlind.params = d.params ∧ d.goBlind.stations = d.stations ∧ d.goBlind.roll = d.roll ∧ d.goBlind.xfu = d.xfu ∧ d.goBlind.ports = d.ports ∧ d.goBlind.smu = d.smu ∧ d.goBlind.engine = d.engine ∧ d.goBlind.notices = d.notices ∧ d.goBlind.sbi = d.sbi := by
  simp [Device.goBlind]

/-- ownerBreak touches engine, notices and track, and no other block. -/
@[simp] theorem Device.ownerBreak_leaves (d : Device) :
    d.ownerBreak.tb = d.tb ∧ d.ownerBreak.params = d.params ∧ d.ownerBreak.stations = d.stations ∧ d.ownerBreak.roll = d.roll ∧ d.ownerBreak.xfu = d.xfu ∧ d.ownerBreak.ports = d.ports ∧ d.ownerBreak.smu = d.smu ∧ d.ownerBreak.sbi = d.sbi := by
  unfold Device.ownerBreak
  split <;> try split
  all_goals simp

/-- seeAgain touches track, and no other block. -/
@[simp] theorem Device.seeAgain_leaves (d : Device) :
    d.seeAgain.tb = d.tb ∧ d.seeAgain.params = d.params ∧ d.seeAgain.stations = d.stations ∧ d.seeAgain.roll = d.roll ∧ d.seeAgain.xfu = d.xfu ∧ d.seeAgain.ports = d.ports ∧ d.seeAgain.smu = d.smu ∧ d.seeAgain.engine = d.engine ∧ d.seeAgain.notices = d.notices ∧ d.seeAgain.sbi = d.sbi := by
  simp [Device.seeAgain]

/-- emptyPathResult touches track, and no other block. -/
@[simp] theorem Device.emptyPathResult_leaves (d : Device) :
    d.emptyPathResult.tb = d.tb ∧ d.emptyPathResult.params = d.params ∧ d.emptyPathResult.stations = d.stations ∧ d.emptyPathResult.roll = d.roll ∧ d.emptyPathResult.xfu = d.xfu ∧ d.emptyPathResult.ports = d.ports ∧ d.emptyPathResult.smu = d.smu ∧ d.emptyPathResult.engine = d.engine ∧ d.emptyPathResult.notices = d.notices ∧ d.emptyPathResult.sbi = d.sbi := by
  simp [Device.emptyPathResult]

/-- startHandoff touches engine, notices, ports, stations and track, and no other block. -/
@[simp] theorem Device.startHandoff_leaves (d : Device) (c : Port) :
    (d.startHandoff c).tb = d.tb ∧ (d.startHandoff c).params = d.params ∧ (d.startHandoff c).roll = d.roll ∧ (d.startHandoff c).xfu = d.xfu ∧ (d.startHandoff c).smu = d.smu ∧ (d.startHandoff c).sbi = d.sbi := by
  simp [Device.startHandoff]

/-- tryHandoff touches engine, notices, ports, stations and track, and no other block. -/
@[simp] theorem Device.tryHandoff_leaves (d : Device) :
    d.tryHandoff.tb = d.tb ∧ d.tryHandoff.params = d.params ∧ d.tryHandoff.roll = d.roll ∧ d.tryHandoff.xfu = d.xfu ∧ d.tryHandoff.smu = d.smu ∧ d.tryHandoff.sbi = d.sbi := by
  unfold Device.tryHandoff
  split <;> simp

/-- failTake touches engine, notices, ports, stations, track and xfu, and no other block. -/
@[simp] theorem Device.failTake_leaves (d : Device) (c : Port) (reason : FailReason) :
    (d.failTake c reason).tb = d.tb ∧ (d.failTake c reason).params = d.params ∧ (d.failTake c reason).roll = d.roll ∧ (d.failTake c reason).smu = d.smu ∧ (d.failTake c reason).sbi = d.sbi := by
  unfold Device.failTake
  split <;> try split
  all_goals simp

/-- learnFailedTake touches smu, and no other block. -/
@[simp] theorem Device.learnFailedTake_leaves (d : Device) (c : Port) :
    (d.learnFailedTake c).tb = d.tb ∧ (d.learnFailedTake c).track = d.track ∧ (d.learnFailedTake c).params = d.params ∧ (d.learnFailedTake c).stations = d.stations ∧ (d.learnFailedTake c).roll = d.roll ∧ (d.learnFailedTake c).xfu = d.xfu ∧ (d.learnFailedTake c).ports = d.ports ∧ (d.learnFailedTake c).engine = d.engine ∧ (d.learnFailedTake c).notices = d.notices ∧ (d.learnFailedTake c).sbi = d.sbi := by
  unfold Device.learnFailedTake
  split <;> simp

/-- releaseFormerOwner touches ports, stations and track, and no other block. -/
@[simp] theorem Device.releaseFormerOwner_leaves (d : Device) :
    d.releaseFormerOwner.tb = d.tb ∧ d.releaseFormerOwner.params = d.params ∧ d.releaseFormerOwner.roll = d.roll ∧ d.releaseFormerOwner.xfu = d.xfu ∧ d.releaseFormerOwner.smu = d.smu ∧ d.releaseFormerOwner.engine = d.engine ∧ d.releaseFormerOwner.notices = d.notices ∧ d.releaseFormerOwner.sbi = d.sbi := by
  unfold Device.releaseFormerOwner
  split <;> simp

/-- makeOwner touches ports, stations and track, and no other block. -/
@[simp] theorem Device.makeOwner_leaves (d : Device) (p : Port) :
    (d.makeOwner p).tb = d.tb ∧ (d.makeOwner p).params = d.params ∧ (d.makeOwner p).roll = d.roll ∧ (d.makeOwner p).xfu = d.xfu ∧ (d.makeOwner p).smu = d.smu ∧ (d.makeOwner p).engine = d.engine ∧ (d.makeOwner p).notices = d.notices ∧ (d.makeOwner p).sbi = d.sbi := by
  simp [Device.makeOwner]

/-- completeHandoff touches engine, notices, ports, stations and track, and no other block. -/
@[simp] theorem Device.completeHandoff_leaves (d : Device) (r : TrackResult) (c : Port) :
    (d.completeHandoff r c).tb = d.tb ∧ (d.completeHandoff r c).params = d.params ∧ (d.completeHandoff r c).roll = d.roll ∧ (d.completeHandoff r c).xfu = d.xfu ∧ (d.completeHandoff r c).smu = d.smu ∧ (d.completeHandoff r c).sbi = d.sbi := by
  simp [Device.completeHandoff]

/-- confirmTake touches engine, notices, ports, stations, track and xfu, and no other block. -/
@[simp] theorem Device.confirmTake_leaves (d : Device) (r : TrackResult) (c : Port) :
    (d.confirmTake r c).tb = d.tb ∧ (d.confirmTake r c).params = d.params ∧ (d.confirmTake r c).roll = d.roll ∧ (d.confirmTake r c).smu = d.smu ∧ (d.confirmTake r c).sbi = d.sbi := by
  unfold Device.confirmTake
  split <;> simp

/-- acceptRelock touches engine, notices, stations and track, and no other block. -/
@[simp] theorem Device.acceptRelock_leaves (d : Device) (r : TrackResult) (o : Port) :
    (d.acceptRelock r o).tb = d.tb ∧ (d.acceptRelock r o).params = d.params ∧ (d.acceptRelock r o).roll = d.roll ∧ (d.acceptRelock r o).xfu = d.xfu ∧ (d.acceptRelock r o).ports = d.ports ∧ (d.acceptRelock r o).smu = d.smu ∧ (d.acceptRelock r o).sbi = d.sbi := by
  unfold Device.acceptRelock
  split <;> simp

/-- abandonTake touches ports, stations and track, and no other block. -/
@[simp] theorem Device.abandonTake_leaves (d : Device) :
    d.abandonTake.tb = d.tb ∧ d.abandonTake.params = d.params ∧ d.abandonTake.roll = d.roll ∧ d.abandonTake.xfu = d.xfu ∧ d.abandonTake.smu = d.smu ∧ d.abandonTake.engine = d.engine ∧ d.abandonTake.notices = d.notices ∧ d.abandonTake.sbi = d.sbi := by
  unfold Device.abandonTake
  split <;> simp

/-- rejectRelock touches engine, notices, ports, stations, track and xfu, and no other block. -/
@[simp] theorem Device.rejectRelock_leaves (d : Device) (o : Port) :
    (d.rejectRelock o).tb = d.tb ∧ (d.rejectRelock o).params = d.params ∧ (d.rejectRelock o).roll = d.roll ∧ (d.rejectRelock o).smu = d.smu ∧ (d.rejectRelock o).sbi = d.sbi := by
  simp [Device.rejectRelock]

/-- confirmRelock touches engine, notices, ports, stations, track and xfu, and no other block. -/
@[simp] theorem Device.confirmRelock_leaves (d : Device) (r : TrackResult) (o : Port) :
    (d.confirmRelock r o).tb = d.tb ∧ (d.confirmRelock r o).params = d.params ∧ (d.confirmRelock r o).roll = d.roll ∧ (d.confirmRelock r o).smu = d.smu ∧ (d.confirmRelock r o).sbi = d.sbi := by
  unfold Device.confirmRelock
  split <;> simp

/-- winSearch touches engine, notices, ports, stations and track, and no other block. -/
@[simp] theorem Device.winSearch_leaves (d : Device) (r : TrackResult) :
    (d.winSearch r).tb = d.tb ∧ (d.winSearch r).params = d.params ∧ (d.winSearch r).roll = d.roll ∧ (d.winSearch r).xfu = d.xfu ∧ (d.winSearch r).smu = d.smu ∧ (d.winSearch r).sbi = d.sbi := by
  simp [Device.winSearch]

/-- resolveSearch touches engine, notices, ports, stations and track, and no other block. -/
@[simp] theorem Device.resolveSearch_leaves (d : Device) (r : TrackResult) :
    (d.resolveSearch r).tb = d.tb ∧ (d.resolveSearch r).params = d.params ∧ (d.resolveSearch r).roll = d.roll ∧ (d.resolveSearch r).xfu = d.xfu ∧ (d.resolveSearch r).smu = d.smu ∧ (d.resolveSearch r).sbi = d.sbi := by
  unfold Device.resolveSearch
  split <;> try split
  all_goals simp

/-- countForeign touches track, and no other block. -/
@[simp] theorem Device.countForeign_leaves (d : Device) :
    d.countForeign.tb = d.tb ∧ d.countForeign.params = d.params ∧ d.countForeign.stations = d.stations ∧ d.countForeign.roll = d.roll ∧ d.countForeign.xfu = d.xfu ∧ d.countForeign.ports = d.ports ∧ d.countForeign.smu = d.smu ∧ d.countForeign.engine = d.engine ∧ d.countForeign.notices = d.notices ∧ d.countForeign.sbi = d.sbi := by
  simp [Device.countForeign]

/-- answerLock touches ports and track, and no other block. -/
@[simp] theorem Device.answerLock_leaves (d : Device) (p : Port) :
    (d.answerLock p).tb = d.tb ∧ (d.answerLock p).params = d.params ∧ (d.answerLock p).stations = d.stations ∧ (d.answerLock p).roll = d.roll ∧ (d.answerLock p).xfu = d.xfu ∧ (d.answerLock p).smu = d.smu ∧ (d.answerLock p).engine = d.engine ∧ (d.answerLock p).notices = d.notices ∧ (d.answerLock p).sbi = d.sbi := by
  simp [Device.answerLock]

/-- routeResult touches engine, notices, ports, smu, stations, track and xfu, and no other block. -/
@[simp] theorem Device.routeResult_leaves (d : Device) (r : TrackResult) :
    (d.routeResult r).tb = d.tb ∧ (d.routeResult r).params = d.params ∧ (d.routeResult r).roll = d.roll ∧ (d.routeResult r).sbi = d.sbi := by
  unfold Device.routeResult
  repeat' split
  all_goals simp

/-- searchResult touches engine, notices, ports, stations and track, and no other block. -/
@[simp] theorem Device.searchResult_leaves (d : Device) (p : Port) (point : Vec3) :
    (d.searchResult p point).tb = d.tb ∧ (d.searchResult p point).params = d.params ∧ (d.searchResult p point).roll = d.roll ∧ (d.searchResult p point).xfu = d.xfu ∧ (d.searchResult p point).smu = d.smu ∧ (d.searchResult p point).sbi = d.sbi := by
  unfold Device.searchResult
  split <;> try split
  all_goals simp

/-- takeBreak touches engine, notices, ports, stations, track and xfu, and no other block. -/
@[simp] theorem Device.takeBreak_leaves (d : Device) (p : Port) :
    (d.takeBreak p).tb = d.tb ∧ (d.takeBreak p).params = d.params ∧ (d.takeBreak p).roll = d.roll ∧ (d.takeBreak p).smu = d.smu ∧ (d.takeBreak p).sbi = d.sbi := by
  unfold Device.takeBreak
  split <;> try split
  all_goals simp

/-- searcherLeft touches engine, notices and track, and no other block. -/
@[simp] theorem Device.searcherLeft_leaves (d : Device) :
    d.searcherLeft.tb = d.tb ∧ d.searcherLeft.params = d.params ∧ d.searcherLeft.stations = d.stations ∧ d.searcherLeft.roll = d.roll ∧ d.searcherLeft.xfu = d.xfu ∧ d.searcherLeft.ports = d.ports ∧ d.searcherLeft.smu = d.smu ∧ d.searcherLeft.sbi = d.sbi := by
  unfold Device.searcherLeft
  split <;> try split
  all_goals simp

/-- takeFail touches engine, notices, ports, smu, stations, track and xfu, and no other block. -/
@[simp] theorem Device.takeFail_leaves (d : Device) (p : Port) :
    (d.takeFail p).tb = d.tb ∧ (d.takeFail p).params = d.params ∧ (d.takeFail p).roll = d.roll ∧ (d.takeFail p).sbi = d.sbi := by
  unfold Device.takeFail
  repeat' split
  all_goals simp

/-- leavePending touches engine, notices and track, and no other block. -/
@[simp] theorem Device.leavePending_leaves (d : Device) (p : Port) :
    (d.leavePending p).tb = d.tb ∧ (d.leavePending p).params = d.params ∧ (d.leavePending p).stations = d.stations ∧ (d.leavePending p).roll = d.roll ∧ (d.leavePending p).xfu = d.xfu ∧ (d.leavePending p).ports = d.ports ∧ (d.leavePending p).smu = d.smu ∧ (d.leavePending p).sbi = d.sbi := by
  unfold Device.leavePending
  split <;> simp

/-- reportLinkDown touches engine, notices, ports, stations, track and xfu, and no other block. -/
@[simp] theorem Device.reportLinkDown_leaves (d : Device) (p : Port) (before : StationState) :
    (d.reportLinkDown p before).tb = d.tb ∧ (d.reportLinkDown p before).params = d.params ∧ (d.reportLinkDown p before).roll = d.roll ∧ (d.reportLinkDown p before).smu = d.smu ∧ (d.reportLinkDown p before).sbi = d.sbi := by
  simp only [Device.reportLinkDown]
  repeat' split
  all_goals simp

/-- joinAcquire touches ports, stations and track, and no other block. -/
@[simp] theorem Device.joinAcquire_leaves (d : Device) (p : Port) (wasEligible : Bool) :
    (d.joinAcquire p wasEligible).tb = d.tb ∧ (d.joinAcquire p wasEligible).params = d.params ∧ (d.joinAcquire p wasEligible).roll = d.roll ∧ (d.joinAcquire p wasEligible).xfu = d.xfu ∧ (d.joinAcquire p wasEligible).smu = d.smu ∧ (d.joinAcquire p wasEligible).engine = d.engine ∧ (d.joinAcquire p wasEligible).notices = d.notices ∧ (d.joinAcquire p wasEligible).sbi = d.sbi := by
  unfold Device.joinAcquire
  split <;> simp

/-- orderUndelivered touches engine, notices, ports, smu, stations, track and xfu, and no other block. -/
@[simp] theorem Device.orderUndelivered_leaves (d : Device) (p : Port) (f : InFlight) :
    (d.orderUndelivered p f).tb = d.tb ∧ (d.orderUndelivered p f).params = d.params ∧ (d.orderUndelivered p f).roll = d.roll ∧ (d.orderUndelivered p f).sbi = d.sbi := by
  unfold Device.orderUndelivered
  repeat' split
  all_goals simp

/-- takeLearning touches smu, and no other block. -/
@[simp] theorem Device.takeLearning_leaves (d : Device) (source : LearnSource) :
    (d.takeLearning source).tb = d.tb ∧ (d.takeLearning source).track = d.track ∧ (d.takeLearning source).params = d.params ∧ (d.takeLearning source).stations = d.stations ∧ (d.takeLearning source).roll = d.roll ∧ (d.takeLearning source).xfu = d.xfu ∧ (d.takeLearning source).ports = d.ports ∧ (d.takeLearning source).engine = d.engine ∧ (d.takeLearning source).notices = d.notices ∧ (d.takeLearning source).sbi = d.sbi := by
  unfold Device.takeLearning
  split <;> simp

/-- takeLookup touches smu, and no other block. -/
@[simp] theorem Device.takeLookup_leaves (d : Device) (p : Port) :
    (d.takeLookup p).tb = d.tb ∧ (d.takeLookup p).track = d.track ∧ (d.takeLookup p).params = d.params ∧ (d.takeLookup p).stations = d.stations ∧ (d.takeLookup p).roll = d.roll ∧ (d.takeLookup p).xfu = d.xfu ∧ (d.takeLookup p).ports = d.ports ∧ (d.takeLookup p).engine = d.engine ∧ (d.takeLookup p).notices = d.notices ∧ (d.takeLookup p).sbi = d.sbi := by
  simp [Device.takeLookup]

/-- takeScan touches smu, and no other block. -/
@[simp] theorem Device.takeScan_leaves (d : Device) :
    d.takeScan.tb = d.tb ∧ d.takeScan.track = d.track ∧ d.takeScan.params = d.params ∧ d.takeScan.stations = d.stations ∧ d.takeScan.roll = d.roll ∧ d.takeScan.xfu = d.xfu ∧ d.takeScan.ports = d.ports ∧ d.takeScan.engine = d.engine ∧ d.takeScan.notices = d.notices ∧ d.takeScan.sbi = d.sbi := by
  simp [Device.takeScan]

/-- endMapCommand touches notices and smu, and no other block. -/
@[simp] theorem Device.endMapCommand_leaves (d : Device) (result : MapResult) :
    (d.endMapCommand result).tb = d.tb ∧ (d.endMapCommand result).track = d.track ∧ (d.endMapCommand result).params = d.params ∧ (d.endMapCommand result).stations = d.stations ∧ (d.endMapCommand result).roll = d.roll ∧ (d.endMapCommand result).xfu = d.xfu ∧ (d.endMapCommand result).ports = d.ports ∧ (d.endMapCommand result).engine = d.engine ∧ (d.endMapCommand result).sbi = d.sbi := by
  unfold Device.endMapCommand
  split <;> simp

/-- writeStep touches notices and smu, and no other block. -/
@[simp] theorem Device.writeStep_leaves (d : Device) (c : RunningCommand) (a : Nat) (v : CellState) :
    (d.writeStep c a v).tb = d.tb ∧ (d.writeStep c a v).track = d.track ∧ (d.writeStep c a v).params = d.params ∧ (d.writeStep c a v).stations = d.stations ∧ (d.writeStep c a v).roll = d.roll ∧ (d.writeStep c a v).xfu = d.xfu ∧ (d.writeStep c a v).ports = d.ports ∧ (d.writeStep c a v).engine = d.engine ∧ (d.writeStep c a v).sbi = d.sbi := by
  unfold Device.writeStep
  split <;> simp

/-- runStep touches notices and smu, and no other block. -/
@[simp] theorem Device.runStep_leaves (d : Device) (c : RunningCommand) (a : Nat) (v : CellState) :
    (d.runStep c a v).tb = d.tb ∧ (d.runStep c a v).track = d.track ∧ (d.runStep c a v).params = d.params ∧ (d.runStep c a v).stations = d.stations ∧ (d.runStep c a v).roll = d.roll ∧ (d.runStep c a v).xfu = d.xfu ∧ (d.runStep c a v).ports = d.ports ∧ (d.runStep c a v).engine = d.engine ∧ (d.runStep c a v).sbi = d.sbi := by
  unfold Device.runStep
  split <;> try split
  all_goals simp

/-- mapStep touches notices and smu, and no other block. -/
@[simp] theorem Device.mapStep_leaves (d : Device) :
    d.mapStep.tb = d.tb ∧ d.mapStep.track = d.track ∧ d.mapStep.params = d.params ∧ d.mapStep.stations = d.stations ∧ d.mapStep.roll = d.roll ∧ d.mapStep.xfu = d.xfu ∧ d.mapStep.ports = d.ports ∧ d.mapStep.engine = d.engine ∧ d.mapStep.sbi = d.sbi := by
  unfold Device.mapStep
  repeat' split
  all_goals simp

/-- abortMapCommand touches notices and smu, and no other block. -/
@[simp] theorem Device.abortMapCommand_leaves (d : Device) (c : RunningCommand) :
    (d.abortMapCommand c).tb = d.tb ∧ (d.abortMapCommand c).track = d.track ∧ (d.abortMapCommand c).params = d.params ∧ (d.abortMapCommand c).stations = d.stations ∧ (d.abortMapCommand c).roll = d.roll ∧ (d.abortMapCommand c).xfu = d.xfu ∧ (d.abortMapCommand c).ports = d.ports ∧ (d.abortMapCommand c).engine = d.engine ∧ (d.abortMapCommand c).sbi = d.sbi := by
  unfold Device.abortMapCommand
  split <;> simp

/-- acceptMapCommand touches smu, and no other block. -/
@[simp] theorem Device.acceptMapCommand_leaves (d : Device) (c : MapCommand) :
    (d.acceptMapCommand c).tb = d.tb ∧ (d.acceptMapCommand c).track = d.track ∧ (d.acceptMapCommand c).params = d.params ∧ (d.acceptMapCommand c).stations = d.stations ∧ (d.acceptMapCommand c).roll = d.roll ∧ (d.acceptMapCommand c).xfu = d.xfu ∧ (d.acceptMapCommand c).ports = d.ports ∧ (d.acceptMapCommand c).engine = d.engine ∧ (d.acceptMapCommand c).notices = d.notices ∧ (d.acceptMapCommand c).sbi = d.sbi := by
  simp [Device.acceptMapCommand]

/-- sweepStep touches smu, and no other block. -/
@[simp] theorem Device.sweepStep_leaves (d : Device) :
    d.sweepStep.tb = d.tb ∧ d.sweepStep.track = d.track ∧ d.sweepStep.params = d.params ∧ d.sweepStep.stations = d.stations ∧ d.sweepStep.roll = d.roll ∧ d.sweepStep.xfu = d.xfu ∧ d.sweepStep.ports = d.ports ∧ d.sweepStep.engine = d.engine ∧ d.sweepStep.notices = d.notices ∧ d.sweepStep.sbi = d.sbi := by
  unfold Device.sweepStep
  split <;> simp

/-- joinIngest touches stations and xfu, and no other block. -/
@[simp] theorem Device.joinIngest_leaves (d : Device) (p : Port) (e : IngestEntry) :
    (d.joinIngest p e).tb = d.tb ∧ (d.joinIngest p e).track = d.track ∧ (d.joinIngest p e).params = d.params ∧ (d.joinIngest p e).roll = d.roll ∧ (d.joinIngest p e).ports = d.ports ∧ (d.joinIngest p e).smu = d.smu ∧ (d.joinIngest p e).engine = d.engine ∧ (d.joinIngest p e).notices = d.notices ∧ (d.joinIngest p e).sbi = d.sbi := by
  simp only [Device.joinIngest]
  split <;> simp

/-- deliverObservation touches smu, stations and xfu, and no other block. -/
@[simp] theorem Device.deliverObservation_leaves (d : Device) (p : Port) (kind : ReportKind) (seq : Byte) (r : ObsReport) :
    (d.deliverObservation p kind seq r).tb = d.tb ∧ (d.deliverObservation p kind seq r).track = d.track ∧ (d.deliverObservation p kind seq r).params = d.params ∧ (d.deliverObservation p kind seq r).roll = d.roll ∧ (d.deliverObservation p kind seq r).ports = d.ports ∧ (d.deliverObservation p kind seq r).engine = d.engine ∧ (d.deliverObservation p kind seq r).notices = d.notices ∧ (d.deliverObservation p kind seq r).sbi = d.sbi := by
  unfold Device.deliverObservation
  split <;> simp

/-- deliverBearing touches smu and stations, and no other block. -/
@[simp] theorem Device.deliverBearing_leaves (d : Device) (p : Port) (r : BearingReport) :
    (d.deliverBearing p r).tb = d.tb ∧ (d.deliverBearing p r).track = d.track ∧ (d.deliverBearing p r).params = d.params ∧ (d.deliverBearing p r).roll = d.roll ∧ (d.deliverBearing p r).xfu = d.xfu ∧ (d.deliverBearing p r).ports = d.ports ∧ (d.deliverBearing p r).engine = d.engine ∧ (d.deliverBearing p r).notices = d.notices ∧ (d.deliverBearing p r).sbi = d.sbi := by
  unfold Device.deliverBearing
  split <;> simp

/-- queryResult touches ports and stations, and no other block. -/
@[simp] theorem Device.queryResult_leaves (d : Device) (p : Port) (point : Vec3) (gen : Option Byte) :
    (d.queryResult p point gen).tb = d.tb ∧ (d.queryResult p point gen).track = d.track ∧ (d.queryResult p point gen).params = d.params ∧ (d.queryResult p point gen).roll = d.roll ∧ (d.queryResult p point gen).xfu = d.xfu ∧ (d.queryResult p point gen).smu = d.smu ∧ (d.queryResult p point gen).engine = d.engine ∧ (d.queryResult p point gen).notices = d.notices ∧ (d.queryResult p point gen).sbi = d.sbi := by
  simp only [Device.queryResult]
  split <;> simp

/-- storeLookup touches smu and stations, and no other block. -/
@[simp] theorem Device.storeLookup_leaves (d : Device) (p : Port) :
    (d.storeLookup p).tb = d.tb ∧ (d.storeLookup p).track = d.track ∧ (d.storeLookup p).params = d.params ∧ (d.storeLookup p).roll = d.roll ∧ (d.storeLookup p).xfu = d.xfu ∧ (d.storeLookup p).ports = d.ports ∧ (d.storeLookup p).engine = d.engine ∧ (d.storeLookup p).notices = d.notices ∧ (d.storeLookup p).sbi = d.sbi := by
  unfold Device.storeLookup
  repeat' split
  all_goals simp

/-- forgetBearing touches smu and stations, and no other block. -/
@[simp] theorem Device.forgetBearing_leaves (d : Device) (p : Port) :
    (d.forgetBearing p).tb = d.tb ∧ (d.forgetBearing p).track = d.track ∧ (d.forgetBearing p).params = d.params ∧ (d.forgetBearing p).roll = d.roll ∧ (d.forgetBearing p).xfu = d.xfu ∧ (d.forgetBearing p).ports = d.ports ∧ (d.forgetBearing p).engine = d.engine ∧ (d.forgetBearing p).notices = d.notices ∧ (d.forgetBearing p).sbi = d.sbi := by
  simp [Device.forgetBearing]

/-- deliverIdentity touches notices and stations, and no other block. -/
@[simp] theorem Device.deliverIdentity_leaves (d : Device) (p : Port) (i : Identity) :
    (d.deliverIdentity p i).tb = d.tb ∧ (d.deliverIdentity p i).track = d.track ∧ (d.deliverIdentity p i).params = d.params ∧ (d.deliverIdentity p i).roll = d.roll ∧ (d.deliverIdentity p i).xfu = d.xfu ∧ (d.deliverIdentity p i).ports = d.ports ∧ (d.deliverIdentity p i).smu = d.smu ∧ (d.deliverIdentity p i).engine = d.engine ∧ (d.deliverIdentity p i).sbi = d.sbi := by
  simp [Device.deliverIdentity]

/-- rollAdvance touches roll, and no other block. -/
@[simp] theorem Device.rollAdvance_leaves (d : Device) :
    d.rollAdvance.tb = d.tb ∧ d.rollAdvance.track = d.track ∧ d.rollAdvance.params = d.params ∧ d.rollAdvance.stations = d.stations ∧ d.rollAdvance.xfu = d.xfu ∧ d.rollAdvance.ports = d.ports ∧ d.rollAdvance.smu = d.smu ∧ d.rollAdvance.engine = d.engine ∧ d.rollAdvance.notices = d.notices ∧ d.rollAdvance.sbi = d.sbi := by
  simp [Device.rollAdvance]

/-- deliverPass touches notices, ports and stations, and no other block. -/
@[simp] theorem Device.deliverPass_leaves (d : Device) (p : Port) (payload : List Byte) :
    (d.deliverPass p payload).tb = d.tb ∧ (d.deliverPass p payload).track = d.track ∧ (d.deliverPass p payload).params = d.params ∧ (d.deliverPass p payload).roll = d.roll ∧ (d.deliverPass p payload).xfu = d.xfu ∧ (d.deliverPass p payload).smu = d.smu ∧ (d.deliverPass p payload).engine = d.engine ∧ (d.deliverPass p payload).sbi = d.sbi := by
  unfold Device.deliverPass
  split <;> simp

/-- releaseMailbox touches stations, and no other block. -/
@[simp] theorem Device.releaseMailbox_leaves (d : Device) (p : Port) :
    (d.releaseMailbox p).tb = d.tb ∧ (d.releaseMailbox p).track = d.track ∧ (d.releaseMailbox p).params = d.params ∧ (d.releaseMailbox p).roll = d.roll ∧ (d.releaseMailbox p).xfu = d.xfu ∧ (d.releaseMailbox p).ports = d.ports ∧ (d.releaseMailbox p).smu = d.smu ∧ (d.releaseMailbox p).engine = d.engine ∧ (d.releaseMailbox p).notices = d.notices ∧ (d.releaseMailbox p).sbi = d.sbi := by
  simp [Device.releaseMailbox]

/-- setQuiet touches ports, stations and track, and no other block. -/
@[simp] theorem Device.setQuiet_leaves (d : Device) (p : Port) (value : Bool) :
    (d.setQuiet p value).tb = d.tb ∧ (d.setQuiet p value).params = d.params ∧ (d.setQuiet p value).roll = d.roll ∧ (d.setQuiet p value).xfu = d.xfu ∧ (d.setQuiet p value).smu = d.smu ∧ (d.setQuiet p value).engine = d.engine ∧ (d.setQuiet p value).notices = d.notices ∧ (d.setQuiet p value).sbi = d.sbi := by
  unfold Device.setQuiet
  split <;> simp

/-- quietBoundary touches ports, stations and track, and no other block. -/
@[simp] theorem Device.quietBoundary_leaves (d : Device) (p : Port) :
    (d.quietBoundary p).tb = d.tb ∧ (d.quietBoundary p).params = d.params ∧ (d.quietBoundary p).roll = d.roll ∧ (d.quietBoundary p).xfu = d.xfu ∧ (d.quietBoundary p).smu = d.smu ∧ (d.quietBoundary p).engine = d.engine ∧ (d.quietBoundary p).notices = d.notices ∧ (d.quietBoundary p).sbi = d.sbi := by
  unfold Device.quietBoundary
  split <;> simp

/-- loadTransform touches ports, smu, stations, track and xfu, and no other block. -/
@[simp] theorem Device.loadTransform_leaves (d : Device) (p : Port) :
    (d.loadTransform p).tb = d.tb ∧ (d.loadTransform p).params = d.params ∧ (d.loadTransform p).roll = d.roll ∧ (d.loadTransform p).engine = d.engine ∧ (d.loadTransform p).notices = d.notices ∧ (d.loadTransform p).sbi = d.sbi := by
  simp [Device.loadTransform]

/-- unloadTransform touches engine, notices, smu, stations, track and xfu, and no other block. -/
@[simp] theorem Device.unloadTransform_leaves (d : Device) (p : Port) :
    (d.unloadTransform p).tb = d.tb ∧ (d.unloadTransform p).params = d.params ∧ (d.unloadTransform p).roll = d.roll ∧ (d.unloadTransform p).ports = d.ports ∧ (d.unloadTransform p).sbi = d.sbi := by
  simp [Device.unloadTransform]

/-- stationLinkUp touches notices, ports, stations and track, and no other block. -/
@[simp] theorem Device.stationLinkUp_leaves (d : Device) (p : Port) :
    (d.stationLinkUp p).tb = d.tb ∧ (d.stationLinkUp p).params = d.params ∧ (d.stationLinkUp p).roll = d.roll ∧ (d.stationLinkUp p).xfu = d.xfu ∧ (d.stationLinkUp p).smu = d.smu ∧ (d.stationLinkUp p).engine = d.engine ∧ (d.stationLinkUp p).sbi = d.sbi := by
  simp [Device.stationLinkUp]

/-- stationLinkDown touches engine, notices, ports, smu, stations, track and xfu, and no other block. -/
@[simp] theorem Device.stationLinkDown_leaves (d : Device) (p : Port) :
    (d.stationLinkDown p).tb = d.tb ∧ (d.stationLinkDown p).params = d.params ∧ (d.stationLinkDown p).roll = d.roll ∧ (d.stationLinkDown p).sbi = d.sbi := by
  simp [Device.stationLinkDown]

/-- grant touches xfu, and no other block. -/
@[simp] theorem Device.grant_leaves (d : Device) :
    d.grant.tb = d.tb ∧ d.grant.track = d.track ∧ d.grant.params = d.params ∧ d.grant.stations = d.stations ∧ d.grant.roll = d.roll ∧ d.grant.ports = d.ports ∧ d.grant.smu = d.smu ∧ d.grant.engine = d.engine ∧ d.grant.notices = d.notices ∧ d.grant.sbi = d.sbi := by
  unfold Device.grant
  split <;> try split
  all_goals simp

/-- complete touches engine, notices, ports, smu, stations, track and xfu, and no other block. -/
@[simp] theorem Device.complete_leaves (d : Device) :
    d.complete.tb = d.tb ∧ d.complete.params = d.params ∧ d.complete.roll = d.roll ∧ d.complete.sbi = d.sbi := by
  unfold Device.complete
  repeat' split
  all_goals simp

/-- deliverBreak touches engine, notices, ports, smu, stations, track and xfu, and no other block. -/
@[simp] theorem Device.deliverBreak_leaves (d : Device) (p : Port) (r : BreakReport) :
    (d.deliverBreak p r).tb = d.tb ∧ (d.deliverBreak p r).params = d.params ∧ (d.deliverBreak p r).roll = d.roll ∧ (d.deliverBreak p r).sbi = d.sbi := by
  unfold Device.deliverBreak
  split <;> simp

/-- deliver touches engine, notices, ports, smu, stations, track and xfu, and no other block. -/
@[simp] theorem Device.deliver_leaves (d : Device) (p : Port) (f : GoodFrame) :
    (d.deliver p f).tb = d.tb ∧ (d.deliver p f).params = d.params ∧ (d.deliver p f).roll = d.roll ∧ (d.deliver p f).sbi = d.sbi := by
  unfold Device.deliver
  split <;> simp

/-- endFrame touches engine, notices, ports, smu, stations, track and xfu, and no other block. -/
@[simp] theorem Device.endFrame_leaves (d : Device) (p : Port) (chars : List LineChar) (ending : FrameEnd) :
    (d.endFrame p chars ending).tb = d.tb ∧ (d.endFrame p chars ending).params = d.params ∧ (d.endFrame p chars ending).roll = d.roll ∧ (d.endFrame p chars ending).sbi = d.sbi := by
  unfold Device.endFrame
  split <;> simp

/-- sendDelivered touches ports, stations and track, and no other block. -/
@[simp] theorem Device.sendDelivered_leaves (d : Device) (p : Port) :
    (d.sendDelivered p).tb = d.tb ∧ (d.sendDelivered p).params = d.params ∧ (d.sendDelivered p).roll = d.roll ∧ (d.sendDelivered p).xfu = d.xfu ∧ (d.sendDelivered p).smu = d.smu ∧ (d.sendDelivered p).engine = d.engine ∧ (d.sendDelivered p).notices = d.notices ∧ (d.sendDelivered p).sbi = d.sbi := by
  simp [Device.sendDelivered]

/-- sendUndelivered touches engine, notices, ports, smu, stations, track and xfu, and no other block. -/
@[simp] theorem Device.sendUndelivered_leaves (d : Device) (p : Port) (f : InFlight) :
    (d.sendUndelivered p f).tb = d.tb ∧ (d.sendUndelivered p f).params = d.params ∧ (d.sendUndelivered p f).roll = d.roll ∧ (d.sendUndelivered p f).sbi = d.sbi := by
  simp [Device.sendUndelivered]

/-- takeAnswer touches engine, notices, ports, smu, stations, track and xfu, and no other block. -/
@[simp] theorem Device.takeAnswer_leaves (d : Device) (p : Port) (a : LinkAnswer) :
    (d.takeAnswer p a).tb = d.tb ∧ (d.takeAnswer p a).params = d.params ∧ (d.takeAnswer p a).roll = d.roll ∧ (d.takeAnswer p a).sbi = d.sbi := by
  unfold Device.takeAnswer
  split <;> try split
  all_goals simp

/-- linkUp touches notices, ports, stations and track, and no other block. -/
@[simp] theorem Device.linkUp_leaves (d : Device) (p : Port) :
    (d.linkUp p).tb = d.tb ∧ (d.linkUp p).params = d.params ∧ (d.linkUp p).roll = d.roll ∧ (d.linkUp p).xfu = d.xfu ∧ (d.linkUp p).smu = d.smu ∧ (d.linkUp p).engine = d.engine ∧ (d.linkUp p).sbi = d.sbi := by
  simp [Device.linkUp]

/-- silenceExpires touches engine, notices, ports, smu, stations, track and xfu, and no other block. -/
@[simp] theorem Device.silenceExpires_leaves (d : Device) (p : Port) :
    (d.silenceExpires p).tb = d.tb ∧ (d.silenceExpires p).params = d.params ∧ (d.silenceExpires p).roll = d.roll ∧ (d.silenceExpires p).sbi = d.sbi := by
  unfold Device.silenceExpires
  split <;> simp

/-- silenceTimeout touches engine, notices, ports, smu, stations, track and xfu, and no other block. -/
@[simp] theorem Device.silenceTimeout_leaves (d : Device) (p : Port) :
    (d.silenceTimeout p).tb = d.tb ∧ (d.silenceTimeout p).params = d.params ∧ (d.silenceTimeout p).roll = d.roll ∧ (d.silenceTimeout p).sbi = d.sbi := by
  unfold Device.silenceTimeout
  split <;> simp

/-- trainOn touches notices, ports, stations and track, and no other block. -/
@[simp] theorem Device.trainOn_leaves (d : Device) (p : Port) (c : LineChar) :
    (d.trainOn p c).tb = d.tb ∧ (d.trainOn p c).params = d.params ∧ (d.trainOn p c).roll = d.roll ∧ (d.trainOn p c).xfu = d.xfu ∧ (d.trainOn p c).smu = d.smu ∧ (d.trainOn p c).engine = d.engine ∧ (d.trainOn p c).sbi = d.sbi := by
  unfold Device.trainOn
  split <;> try split
  all_goals simp

/-- returnToAccepting touches ports, stations and track, and no other block. -/
@[simp] theorem Device.returnToAccepting_leaves (d : Device) (p : Port) :
    (d.returnToAccepting p).tb = d.tb ∧ (d.returnToAccepting p).params = d.params ∧ (d.returnToAccepting p).roll = d.roll ∧ (d.returnToAccepting p).xfu = d.xfu ∧ (d.returnToAccepting p).smu = d.smu ∧ (d.returnToAccepting p).engine = d.engine ∧ (d.returnToAccepting p).notices = d.notices ∧ (d.returnToAccepting p).sbi = d.sbi := by
  simp [Device.returnToAccepting]

/-- refuseOn touches engine, notices, ports, smu, stations, track and xfu, and no other block. -/
@[simp] theorem Device.refuseOn_leaves (d : Device) (p : Port) (c : LineChar) :
    (d.refuseOn p c).tb = d.tb ∧ (d.refuseOn p c).params = d.params ∧ (d.refuseOn p c).roll = d.roll ∧ (d.refuseOn p c).sbi = d.sbi := by
  unfold Device.refuseOn
  split <;> simp

/-- betweenOn touches engine, notices, ports, smu, stations, track and xfu, and no other block. -/
@[simp] theorem Device.betweenOn_leaves (d : Device) (p : Port) (c : LineChar) :
    (d.betweenOn p c).tb = d.tb ∧ (d.betweenOn p c).params = d.params ∧ (d.betweenOn p c).roll = d.roll ∧ (d.betweenOn p c).sbi = d.sbi := by
  unfold Device.betweenOn
  split <;> simp

/-- collect touches engine, notices, ports, smu, stations, track and xfu, and no other block. -/
@[simp] theorem Device.collect_leaves (d : Device) (p : Port) (chars : List LineChar) (c : LineChar) :
    (d.collect p chars c).tb = d.tb ∧ (d.collect p chars c).params = d.params ∧ (d.collect p chars c).roll = d.roll ∧ (d.collect p chars c).sbi = d.sbi := by
  simp only [Device.collect]
  split <;> simp

/-- inFrameOn touches engine, notices, ports, smu, stations, track and xfu, and no other block. -/
@[simp] theorem Device.inFrameOn_leaves (d : Device) (p : Port) (chars : List LineChar) (c : LineChar) :
    (d.inFrameOn p chars c).tb = d.tb ∧ (d.inFrameOn p chars c).params = d.params ∧ (d.inFrameOn p chars c).roll = d.roll ∧ (d.inFrameOn p chars c).sbi = d.sbi := by
  unfold Device.inFrameOn
  split <;> simp

/-- receive touches engine, notices, ports, smu, stations, track and xfu, and no other block. -/
@[simp] theorem Device.receive_leaves (d : Device) (p : Port) (c : LineChar) :
    (d.receive p c).tb = d.tb ∧ (d.receive p c).params = d.params ∧ (d.receive p c).roll = d.roll ∧ (d.receive p c).sbi = d.sbi := by
  unfold Device.receive
  split <;> simp

/-- receiveAll touches engine, notices, ports, smu, stations, track and xfu, and no other block. -/
@[simp] theorem Device.receiveAll_leaves (d : Device) (p : Port) (chars : List LineChar) :
    (d.receiveAll p chars).tb = d.tb ∧ (d.receiveAll p chars).params = d.params ∧ (d.receiveAll p chars).roll = d.roll ∧ (d.receiveAll p chars).sbi = d.sbi := by
  induction chars generalizing d with
  | nil => simp [Device.receiveAll]
  | cons c rest ih =>
    have h := ih (d.receive p c)
    simpa [Device.receiveAll] using h

/-- answerExpires touches engine, notices, ports, smu, stations, track and xfu, and no other block. -/
@[simp] theorem Device.answerExpires_leaves (d : Device) (p : Port) :
    (d.answerExpires p).tb = d.tb ∧ (d.answerExpires p).params = d.params ∧ (d.answerExpires p).roll = d.roll ∧ (d.answerExpires p).sbi = d.sbi := by
  unfold Device.answerExpires
  split <;> simp

/-- answerTimeout touches engine, notices, ports, smu, stations, track and xfu, and no other block. -/
@[simp] theorem Device.answerTimeout_leaves (d : Device) (p : Port) :
    (d.answerTimeout p).tb = d.tb ∧ (d.answerTimeout p).params = d.params ∧ (d.answerTimeout p).roll = d.roll ∧ (d.answerTimeout p).sbi = d.sbi := by
  unfold Device.answerTimeout
  split <;> simp

/-- armWith touches engine, notices, ports, stations and track, and no other block. -/
@[simp] theorem Device.armWith_leaves (d : Device) (mask : PerPort Bool) :
    (d.armWith mask).tb = d.tb ∧ (d.armWith mask).params = d.params ∧ (d.armWith mask).roll = d.roll ∧ (d.armWith mask).xfu = d.xfu ∧ (d.armWith mask).smu = d.smu ∧ (d.armWith mask).sbi = d.sbi := by
  simp only [Device.armWith, allPorts, List.foldl_cons, List.foldl_nil]
  split_ifs <;> simp

/-- cancelRole touches ports, stations and track, and no other block. -/
@[simp] theorem Device.cancelRole_leaves (d : Device) (p : Option Port) :
    (d.cancelRole p).tb = d.tb ∧ (d.cancelRole p).params = d.params ∧ (d.cancelRole p).roll = d.roll ∧ (d.cancelRole p).xfu = d.xfu ∧ (d.cancelRole p).smu = d.smu ∧ (d.cancelRole p).engine = d.engine ∧ (d.cancelRole p).notices = d.notices ∧ (d.cancelRole p).sbi = d.sbi := by
  unfold Device.cancelRole
  split <;> simp

/-- cancelTrack touches engine, notices, ports, stations and track, and no other block. -/
@[simp] theorem Device.cancelTrack_leaves (d : Device) :
    d.cancelTrack.tb = d.tb ∧ d.cancelTrack.params = d.params ∧ d.cancelTrack.roll = d.roll ∧ d.cancelTrack.xfu = d.xfu ∧ d.cancelTrack.smu = d.smu ∧ d.cancelTrack.sbi = d.sbi := by
  simp [Device.cancelTrack]

/-- requestQuiet touches ports, stations and track, and no other block. -/
@[simp] theorem Device.requestQuiet_leaves (d : Device) (p : Port) (value : Bool) :
    (d.requestQuiet p value).tb = d.tb ∧ (d.requestQuiet p value).params = d.params ∧ (d.requestQuiet p value).roll = d.roll ∧ (d.requestQuiet p value).xfu = d.xfu ∧ (d.requestQuiet p value).smu = d.smu ∧ (d.requestQuiet p value).engine = d.engine ∧ (d.requestQuiet p value).notices = d.notices ∧ (d.requestQuiet p value).sbi = d.sbi := by
  simp only [Device.requestQuiet]
  repeat' split
  all_goals simp

/-- setOutstanding touches stations and xfu, and no other block. -/
@[simp] theorem Device.setOutstanding_leaves (d : Device) (p : Port) (limit : Nat) :
    (d.setOutstanding p limit).tb = d.tb ∧ (d.setOutstanding p limit).track = d.track ∧ (d.setOutstanding p limit).params = d.params ∧ (d.setOutstanding p limit).roll = d.roll ∧ (d.setOutstanding p limit).ports = d.ports ∧ (d.setOutstanding p limit).smu = d.smu ∧ (d.setOutstanding p limit).engine = d.engine ∧ (d.setOutstanding p limit).notices = d.notices ∧ (d.setOutstanding p limit).sbi = d.sbi := by
  simp [Device.setOutstanding]

/-- takeResume touches engine and notices, and no other block. -/
@[simp] theorem Device.takeResume_leaves (d : Device) :
    d.takeResume.tb = d.tb ∧ d.takeResume.track = d.track ∧ d.takeResume.params = d.params ∧ d.takeResume.stations = d.stations ∧ d.takeResume.roll = d.roll ∧ d.takeResume.xfu = d.xfu ∧ d.takeResume.ports = d.ports ∧ d.takeResume.smu = d.smu ∧ d.takeResume.sbi = d.sbi := by
  simp only [Device.takeResume]
  split <;> simp

/-- clearBusWidth touches sbi, and no other block. -/
@[simp] theorem Device.clearBusWidth_leaves (d : Device) :
    d.clearBusWidth.tb = d.tb ∧ d.clearBusWidth.track = d.track ∧ d.clearBusWidth.params = d.params ∧ d.clearBusWidth.stations = d.stations ∧ d.clearBusWidth.roll = d.roll ∧ d.clearBusWidth.xfu = d.xfu ∧ d.clearBusWidth.ports = d.ports ∧ d.clearBusWidth.smu = d.smu ∧ d.clearBusWidth.engine = d.engine ∧ d.clearBusWidth.notices = d.notices := by
  simp [Device.clearBusWidth]

/-- markBusWidth touches sbi, and no other block. -/
@[simp] theorem Device.markBusWidth_leaves (d : Device) :
    d.markBusWidth.tb = d.tb ∧ d.markBusWidth.track = d.track ∧ d.markBusWidth.params = d.params ∧ d.markBusWidth.stations = d.stations ∧ d.markBusWidth.roll = d.roll ∧ d.markBusWidth.xfu = d.xfu ∧ d.markBusWidth.ports = d.ports ∧ d.markBusWidth.smu = d.smu ∧ d.markBusWidth.engine = d.engine ∧ d.markBusWidth.notices = d.notices := by
  simp [Device.markBusWidth]

/-- clearNotices touches notices, and no other block. -/
@[simp] theorem Device.clearNotices_leaves (d : Device) (w : Word) :
    (d.clearNotices w).tb = d.tb ∧ (d.clearNotices w).track = d.track ∧ (d.clearNotices w).params = d.params ∧ (d.clearNotices w).stations = d.stations ∧ (d.clearNotices w).roll = d.roll ∧ (d.clearNotices w).xfu = d.xfu ∧ (d.clearNotices w).ports = d.ports ∧ (d.clearNotices w).smu = d.smu ∧ (d.clearNotices w).engine = d.engine ∧ (d.clearNotices w).sbi = d.sbi := by
  simp [Device.clearNotices]

/-- writeMask touches notices, and no other block. -/
@[simp] theorem Device.writeMask_leaves (d : Device) (w : Word) :
    (d.writeMask w).tb = d.tb ∧ (d.writeMask w).track = d.track ∧ (d.writeMask w).params = d.params ∧ (d.writeMask w).stations = d.stations ∧ (d.writeMask w).roll = d.roll ∧ (d.writeMask w).xfu = d.xfu ∧ (d.writeMask w).ports = d.ports ∧ (d.writeMask w).smu = d.smu ∧ (d.writeMask w).engine = d.engine ∧ (d.writeMask w).sbi = d.sbi := by
  simp [Device.writeMask]

/-- writeNoticeControl touches notices, and no other block. -/
@[simp] theorem Device.writeNoticeControl_leaves (d : Device) (w : Word) :
    (d.writeNoticeControl w).tb = d.tb ∧ (d.writeNoticeControl w).track = d.track ∧ (d.writeNoticeControl w).params = d.params ∧ (d.writeNoticeControl w).stations = d.stations ∧ (d.writeNoticeControl w).roll = d.roll ∧ (d.writeNoticeControl w).xfu = d.xfu ∧ (d.writeNoticeControl w).ports = d.ports ∧ (d.writeNoticeControl w).smu = d.smu ∧ (d.writeNoticeControl w).engine = d.engine ∧ (d.writeNoticeControl w).sbi = d.sbi := by
  simp [Device.writeNoticeControl]

/-- rollRestart touches roll, and no other block. -/
@[simp] theorem Device.rollRestart_leaves (d : Device) :
    d.rollRestart.tb = d.tb ∧ d.rollRestart.track = d.track ∧ d.rollRestart.params = d.params ∧ d.rollRestart.stations = d.stations ∧ d.rollRestart.xfu = d.xfu ∧ d.rollRestart.ports = d.ports ∧ d.rollRestart.smu = d.smu ∧ d.rollRestart.engine = d.engine ∧ d.rollRestart.notices = d.notices ∧ d.rollRestart.sbi = d.sbi := by
  simp [Device.rollRestart]

/-- clearPortFlags touches ports, and no other block. -/
@[simp] theorem Device.clearPortFlags_leaves (d : Device) (p : Port) (w : Word) :
    (d.clearPortFlags p w).tb = d.tb ∧ (d.clearPortFlags p w).track = d.track ∧ (d.clearPortFlags p w).params = d.params ∧ (d.clearPortFlags p w).stations = d.stations ∧ (d.clearPortFlags p w).roll = d.roll ∧ (d.clearPortFlags p w).xfu = d.xfu ∧ (d.clearPortFlags p w).smu = d.smu ∧ (d.clearPortFlags p w).engine = d.engine ∧ (d.clearPortFlags p w).notices = d.notices ∧ (d.clearPortFlags p w).sbi = d.sbi := by
  simp [Device.clearPortFlags]

/-- writePairMode touches xfu, and no other block. -/
@[simp] theorem Device.writePairMode_leaves (d : Device) (w : Word) :
    (d.writePairMode w).tb = d.tb ∧ (d.writePairMode w).track = d.track ∧ (d.writePairMode w).params = d.params ∧ (d.writePairMode w).stations = d.stations ∧ (d.writePairMode w).roll = d.roll ∧ (d.writePairMode w).ports = d.ports ∧ (d.writePairMode w).smu = d.smu ∧ (d.writePairMode w).engine = d.engine ∧ (d.writePairMode w).notices = d.notices ∧ (d.writePairMode w).sbi = d.sbi := by
  simp [Device.writePairMode]

/-- snapshotTrack touches sbi and track, and no other block. -/
@[simp] theorem Device.snapshotTrack_leaves (d : Device) :
    d.snapshotTrack.tb = d.tb ∧ d.snapshotTrack.params = d.params ∧ d.snapshotTrack.stations = d.stations ∧ d.snapshotTrack.roll = d.roll ∧ d.snapshotTrack.xfu = d.xfu ∧ d.snapshotTrack.ports = d.ports ∧ d.snapshotTrack.smu = d.smu ∧ d.snapshotTrack.engine = d.engine ∧ d.snapshotTrack.notices = d.notices := by
  simp [Device.snapshotTrack]

/-- readRoll touches roll and sbi, and no other block. -/
@[simp] theorem Device.readRoll_leaves (d : Device) :
    d.readRoll.tb = d.tb ∧ d.readRoll.track = d.track ∧ d.readRoll.params = d.params ∧ d.readRoll.stations = d.stations ∧ d.readRoll.xfu = d.xfu ∧ d.readRoll.ports = d.ports ∧ d.readRoll.smu = d.smu ∧ d.readRoll.engine = d.engine ∧ d.readRoll.notices = d.notices := by
  simp [Device.readRoll]

/-- placeQueries touches xfu, and no other block. -/
@[simp] theorem Device.placeQueries_leaves (d : Device) (point : Vec3) :
    (d.placeQueries point).tb = d.tb ∧ (d.placeQueries point).track = d.track ∧ (d.placeQueries point).params = d.params ∧ (d.placeQueries point).stations = d.stations ∧ (d.placeQueries point).roll = d.roll ∧ (d.placeQueries point).ports = d.ports ∧ (d.placeQueries point).smu = d.smu ∧ (d.placeQueries point).engine = d.engine ∧ (d.placeQueries point).notices = d.notices ∧ (d.placeQueries point).sbi = d.sbi := by
  simp only [Device.placeQueries, allPorts, List.foldl_cons, List.foldl_nil]
  split_ifs <;> simp

/-- queryTick touches engine, notices, ports, stations, track and xfu, and no other block. -/
@[simp] theorem Device.queryTick_leaves (d : Device) :
    d.queryTick.tb = d.tb ∧ d.queryTick.params = d.params ∧ d.queryTick.roll = d.roll ∧ d.queryTick.smu = d.smu ∧ d.queryTick.sbi = d.sbi := by
  unfold Device.queryTick
  split <;> simp

/-- queryExpires touches engine, notices, ports, stations, track and xfu, and no other block. -/
@[simp] theorem Device.queryExpires_leaves (d : Device) :
    d.queryExpires.tb = d.tb ∧ d.queryExpires.params = d.params ∧ d.queryExpires.roll = d.roll ∧ d.queryExpires.smu = d.smu ∧ d.queryExpires.sbi = d.sbi := by
  unfold Device.queryExpires
  split <;> simp

/-- outputExpires touches engine and track, and no other block. -/
@[simp] theorem Device.outputExpires_leaves (d : Device) :
    d.outputExpires.tb = d.tb ∧ d.outputExpires.params = d.params ∧ d.outputExpires.stations = d.stations ∧ d.outputExpires.roll = d.roll ∧ d.outputExpires.xfu = d.xfu ∧ d.outputExpires.ports = d.ports ∧ d.outputExpires.smu = d.smu ∧ d.outputExpires.notices = d.notices ∧ d.outputExpires.sbi = d.sbi := by
  unfold Device.outputExpires
  split <;> simp

/-- timeoutTake touches engine, notices, ports, smu, stations, track and xfu, and no other block. -/
@[simp] theorem Device.timeoutTake_leaves (d : Device) (c : Port) :
    (d.timeoutTake c).tb = d.tb ∧ (d.timeoutTake c).params = d.params ∧ (d.timeoutTake c).roll = d.roll ∧ (d.timeoutTake c).sbi = d.sbi := by
  simp [Device.timeoutTake]

/-- handoffExpires touches engine, notices, ports, smu, stations, track and xfu, and no other block. -/
@[simp] theorem Device.handoffExpires_leaves (d : Device) :
    d.handoffExpires.tb = d.tb ∧ d.handoffExpires.params = d.params ∧ d.handoffExpires.roll = d.roll ∧ d.handoffExpires.sbi = d.sbi := by
  unfold Device.handoffExpires
  split <;> try split
  all_goals simp

/-- coastExpires touches engine, notices, ports, stations, track and xfu, and no other block. -/
@[simp] theorem Device.coastExpires_leaves (d : Device) :
    d.coastExpires.tb = d.tb ∧ d.coastExpires.params = d.params ∧ d.coastExpires.roll = d.roll ∧ d.coastExpires.smu = d.smu ∧ d.coastExpires.sbi = d.sbi := by
  unfold Device.coastExpires
  split <;> try split
  all_goals simp

/-- searchExpires touches engine, notices, ports, stations and track, and no other block. -/
@[simp] theorem Device.searchExpires_leaves (d : Device) :
    d.searchExpires.tb = d.tb ∧ d.searchExpires.params = d.params ∧ d.searchExpires.roll = d.roll ∧ d.searchExpires.xfu = d.xfu ∧ d.searchExpires.smu = d.smu ∧ d.searchExpires.sbi = d.sbi := by
  unfold Device.searchExpires
  split <;> try split
  all_goals simp

/-- holdOffExpires touches stations, and no other block. -/
@[simp] theorem Device.holdOffExpires_leaves (d : Device) (p : Port) :
    (d.holdOffExpires p).tb = d.tb ∧ (d.holdOffExpires p).track = d.track ∧ (d.holdOffExpires p).params = d.params ∧ (d.holdOffExpires p).roll = d.roll ∧ (d.holdOffExpires p).xfu = d.xfu ∧ (d.holdOffExpires p).ports = d.ports ∧ (d.holdOffExpires p).smu = d.smu ∧ (d.holdOffExpires p).engine = d.engine ∧ (d.holdOffExpires p).notices = d.notices ∧ (d.holdOffExpires p).sbi = d.sbi := by
  unfold Device.holdOffExpires
  split <;> simp

/-- pathResultArrives touches engine, notices, ports, stations and track, and no other block. -/
@[simp] theorem Device.pathResultArrives_leaves (d : Device) (p : Port) (r : PathResult) :
    (d.pathResultArrives p r).tb = d.tb ∧ (d.pathResultArrives p r).params = d.params ∧ (d.pathResultArrives p r).roll = d.roll ∧ (d.pathResultArrives p r).xfu = d.xfu ∧ (d.pathResultArrives p r).smu = d.smu ∧ (d.pathResultArrives p r).sbi = d.sbi := by
  unfold Device.pathResultArrives
  repeat' split
  all_goals simp

/-- handBackScan touches engine, notices, ports, smu, stations and track, and no other block. -/
@[simp] theorem Device.handBackScan_leaves (d : Device) :
    d.handBackScan.tb = d.tb ∧ d.handBackScan.params = d.params ∧ d.handBackScan.roll = d.roll ∧ d.handBackScan.xfu = d.xfu ∧ d.handBackScan.sbi = d.sbi := by
  unfold Device.handBackScan
  split <;> try split
  all_goals simp

/-- tick touches ports and tb, and no other block. -/
@[simp] theorem Device.tick_leaves (d : Device) :
    d.tick.track = d.track ∧ d.tick.params = d.params ∧ d.tick.stations = d.stations ∧ d.tick.roll = d.roll ∧ d.tick.xfu = d.xfu ∧ d.tick.smu = d.smu ∧ d.tick.engine = d.engine ∧ d.tick.notices = d.notices ∧ d.tick.sbi = d.sbi := by
  simp [Device.tick]

end Sys2Proof.Machine
end

