-- ==== Sys2Proof/Laws/MapMemory.lean ====
section
/-! SUPPORT. The laws of the sight maps' addressed store: a read after a write, and the one form of the list, which every write keeps and
in which equal maps are equal lists. -/

namespace Sys2Proof.Machine

/-- A list that rises from a bound rises from every smaller one. -/
theorem cellsRising_mono {m n : Nat} (h : m ≤ n) {cells : List (Nat × CellState)} (rising : cellsRising n cells = true) :
    cellsRising m cells = true := by
  cases cells with
  | nil => rfl
  | cons c rest =>
    obtain ⟨b, w⟩ := c
    simp only [cellsRising, Bool.and_eq_true, decide_eq_true_eq] at rising ⊢
    exact ⟨⟨by omega, rising.1.2⟩, rising.2⟩

/-- A cell below the bound of a rising list is not listed. -/
theorem readCell_below {n a : Nat} {cells : List (Nat × CellState)} (rising : cellsRising n cells = true) (h : a < n) :
    readCell cells a = unlistedCell := by
  induction cells generalizing n with
  | nil => rfl
  | cons c rest ih =>
    obtain ⟨b, w⟩ := c
    simp only [cellsRising, Bool.and_eq_true, decide_eq_true_eq] at rising
    rw [readCell, if_neg (by omega)]
    exact ih rising.2 (by omega)

/-- A write keeps a list rising from a bound that its address does not pass. -/
theorem cellsRising_write {n a : Nat} {cells : List (Nat × CellState)} (v : CellState) (rising : cellsRising n cells = true)
    (h : n ≤ a) : cellsRising n (writeCell cells a v) = true := by
  induction cells generalizing n with
  | nil => by_cases hv : v = unlistedCell <;> simp [writeCell, cellsRising, hv, h]
  | cons c rest ih =>
    obtain ⟨b, w⟩ := c
    simp only [cellsRising, Bool.and_eq_true, decide_eq_true_eq] at rising
    obtain ⟨⟨low, listed⟩, tail⟩ := rising
    rcases Nat.lt_trichotomy a b with lt | rfl | gt
    · by_cases hv : v = unlistedCell
      · simp [writeCell, cellsRising, lt, hv, low, listed, tail]
      · simp [writeCell, cellsRising, lt, hv, h, listed, tail, Nat.succ_le_of_lt lt]
    · by_cases hv : v = unlistedCell
      · simp only [writeCell, lt_irrefl, if_false, if_true, hv]
        exact cellsRising_mono (by omega) tail
      · simp [writeCell, cellsRising, hv, h, tail]
    · have below : ¬ a < b := by omega
      have other : a ≠ b := by omega
      simp [writeCell, cellsRising, below, other, low, listed, ih tail gt]

/-- A write keeps the one form of the list. -/
theorem writeCell_wellFormed {cells : List (Nat × CellState)} (a : Nat) (v : CellState) (h : cellsWellFormed cells = true) :
    cellsWellFormed (writeCell cells a v) = true :=
  cellsRising_write v h (Nat.zero_le a)

/-- A read after a write, on a list that rises from a bound. -/
theorem readCell_write_rising {n : Nat} {cells : List (Nat × CellState)} (rising : cellsRising n cells = true) (a b : Nat)
    (v : CellState) : readCell (writeCell cells a v) b = if b = a then v else readCell cells b := by
  induction cells generalizing n with
  | nil => by_cases hv : v = unlistedCell <;> by_cases hb : b = a <;> simp [writeCell, readCell, hv, hb]
  | cons c rest ih =>
    obtain ⟨k, w⟩ := c
    simp only [cellsRising, Bool.and_eq_true, decide_eq_true_eq] at rising
    obtain ⟨⟨low, listed⟩, tail⟩ := rising
    rcases Nat.lt_trichotomy a k with lt | rfl | gt
    · have unlisted : readCell rest a = unlistedCell := readCell_below tail (by omega)
      by_cases hv : v = unlistedCell
      · by_cases hb : b = a
        · subst hb
          simp [writeCell, readCell, lt, hv, unlisted, Nat.ne_of_lt lt]
        · simp [writeCell, readCell, lt, hv, hb]
      · simp [writeCell, readCell, lt, hv]
    · by_cases hv : v = unlistedCell
      · by_cases hb : b = a
        · subst hb
          simp [writeCell, hv, readCell_below tail (Nat.lt_succ_self b)]
        · simp [writeCell, readCell, hv, hb]
      · by_cases hb : b = a <;> simp [writeCell, readCell, hv, hb]
    · have below : ¬ a < k := by omega
      have other : a ≠ k := by omega
      by_cases hb : b = k
      · subst hb
        simp [writeCell, readCell, below, other, Ne.symm other]
      · simp [writeCell, readCell, below, other, hb, ih tail]

/-- A read after a write: the written cell holds the value, and every other what it held. -/
theorem readCell_writeCell {cells : List (Nat × CellState)} (h : cellsWellFormed cells = true) (a b : Nat) (v : CellState) :
    readCell (writeCell cells a v) b = if b = a then v else readCell cells b :=
  readCell_write_rising h a b v

/-- Two rising lists that read alike everywhere are equal. -/
theorem cells_ext_rising {n : Nat} {cells others : List (Nat × CellState)} (h : cellsRising n cells = true)
    (k : cellsRising n others = true) (same : ∀ a, readCell cells a = readCell others a) : cells = others := by
  induction cells generalizing n others with
  | nil =>
    cases others with
    | nil => rfl
    | cons c rest =>
      obtain ⟨b, w⟩ := c
      simp only [cellsRising, Bool.and_eq_true, decide_eq_true_eq] at k
      exact absurd (by simpa [readCell] using (same b).symm) k.1.2
  | cons c rest ih =>
    obtain ⟨b, w⟩ := c
    have hb := h
    simp only [cellsRising, Bool.and_eq_true, decide_eq_true_eq] at hb
    cases others with
    | nil => exact absurd (by simpa [readCell] using same b) hb.1.2
    | cons c' rest' =>
      obtain ⟨b', w'⟩ := c'
      have kb := k
      simp only [cellsRising, Bool.and_eq_true, decide_eq_true_eq] at kb
      rcases Nat.lt_trichotomy b b' with lt | rfl | gt
      · have := same b
        rw [readCell, if_pos rfl, readCell, if_neg (by omega), readCell_below kb.2 (by omega)] at this
        exact absurd this hb.1.2
      · have head := same b
        rw [readCell, if_pos rfl, readCell, if_pos rfl] at head
        subst head
        refine congrArg _ (ih hb.2 kb.2 fun a => ?_)
        by_cases ha : a = b
        · subst ha
          rw [readCell_below hb.2 (by omega), readCell_below kb.2 (by omega)]
        · simpa [readCell, ha] using same a
      · have := same b'
        rw [readCell, if_neg (by omega), readCell_below hb.2 (by omega), readCell, if_pos rfl] at this
        exact absurd this.symm kb.1.2

/-- Equal maps are equal lists. -/
theorem cells_ext {cells others : List (Nat × CellState)} (h : cellsWellFormed cells = true) (k : cellsWellFormed others = true)
    (same : ∀ a, readCell cells a = readCell others a) : cells = others :=
  cells_ext_rising h k same

/-- The maps right after reset are in their one form. -/
theorem reset_cells_wellFormed : cellsWellFormed State.reset.device.smu.cells = true := rfl

end Sys2Proof.Machine
end

