-- ==== Sys2Proof/Laws/Operations.lean ====
section
/-! SUPPORT. What the shared operations can do, said once for each, so that a proof cites it instead of unfolding the operation. -/

namespace Sys2Proof.Machine

/-! ## Arithmetic, deadlines and codes -/

/-- A saturated number lies in its range. -/
theorem saturate_mem {lo hi : Int} (h : lo ≤ hi) (n : Int) : lo ≤ saturate lo hi n ∧ saturate lo hi n ≤ hi := by
  unfold saturate
  omega

/-- A number in its range is left as it is. -/
theorem saturate_of_mem {lo hi n : Int} (low : lo ≤ n) (high : n ≤ hi) : saturate lo hi n = n := by
  unfold saturate
  omega

/-- A saturated 32-bit number lies in the signed 32-bit range. -/
theorem saturate32_mem (n : Int) : -2147483648 ≤ saturate32 n ∧ saturate32 n ≤ 2147483647 := saturate_mem (by decide) n

/-- A clamped number lies in its range. -/
theorem clampNat_mem {lo hi : Nat} (h : lo ≤ hi) (n : Nat) : lo ≤ clampNat lo hi n ∧ clampNat lo hi n ≤ hi := by
  unfold clampNat
  omega

/-- A counter counts one, or stays at 65,535. -/
theorem countUp_toNat (c : Half) : (countUp c).toNat = min (c.toNat + 1) 65535 := by
  unfold countUp
  split
  · subst_vars
    decide
  · rename_i h
    have below : c.toNat ≠ 65535 := fun k => h (BitVec.eq_of_toNat_eq (by simpa using k))
    have := c.isLt
    have one : (1 : Half).toNat = 1 := rfl
    rw [BitVec.toNat_add, one]
    omega

/-- A deadline has expired exactly where it is present and the time base is later (R3). -/
theorem expired_iff (now : Word) (deadline : Option Word) :
    expired now deadline = true ↔ ∃ t, deadline = some t ∧ 0 < (now - t).toInt := by
  cases deadline <;> simp [expired, laterThan, timeDiff]

/-- The port a parameter word names. -/
theorem portOfWord_eq_some (w : Word) (p : Port) : portOfWord w = some p ↔ w.toNat = p.val := by
  unfold portOfWord
  split
  · simp [Fin.ext_iff]
  · have := p.isLt
    simp
    omega

/-- A parameter word names no port from 4 up. -/
theorem portOfWord_eq_none (w : Word) : portOfWord w = none ↔ 3 < w.toNat := by
  unfold portOfWord
  split <;> simp <;> omega

/-- A state code names its state. -/
theorem cellOfWord_eq_some (w : Word) (v : CellState) : cellOfWord w = some v ↔ w.toNat = v.code := by
  have code : ∀ n : Nat, n < 4294967296 → (w = BitVec.ofNat 32 n ↔ w.toNat = n) := fun n h =>
    ⟨fun k => by rw [k, BitVec.toNat_ofNat, Nat.mod_eq_of_lt h],
     fun k => BitVec.eq_of_toNat_eq (by rw [k, BitVec.toNat_ofNat, Nat.mod_eq_of_lt h])⟩
  have h0 := code 0 (by decide)
  have h1 := code 1 (by decide)
  have h2 := code 2 (by decide)
  have h3 := code 3 (by decide)
  have h4 := code 4 (by decide)
  have h5 := code 5 (by decide)
  unfold cellOfWord
  cases v <;> simp only [CellState.code] <;> split_ifs <;> simp_all

/-! ## The command register (R188) -/

/-- A command is refused with BUSY behind a held START, or is what its block makes of it, with the status that says which. -/
theorem Device.command_cases (d : Device) (code : Byte) (judge : Device → CommandResult) :
    (d.engine.startHeld = true ∧ d.command code judge = d.setStatus code .refused .busy) ∨
    (d.engine.startHeld = false ∧
      ((∃ d', judge d = .taken d' ∧ d.command code judge = d'.setStatus code .done .nothing) ∨
       (∃ reason, judge d = .refused reason ∧ d.command code judge = d.setStatus code .refused reason) ∨
       (∃ d', judge d = .held d' ∧ d.command code judge = d'.setStatus code .pending .nothing))) := by
  unfold Device.command
  cases h : d.engine.startHeld with
  | true => exact .inl ⟨rfl, by simp⟩
  | false =>
    refine .inr ⟨rfl, ?_⟩
    cases k : judge d with
    | taken d' => exact .inl ⟨d', rfl, by simp⟩
    | refused reason => exact .inr (.inl ⟨reason, rfl, by simp⟩)
    | held d' => exact .inr (.inr ⟨d', rfl, by simp⟩)

/-! ## Stations and orders (R28, R29, R31) -/

/-- What makes a station eligible (R31). -/
theorem Device.eligible_iff (d : Device) (p : Port) :
    d.eligible p = true ↔
      d.stationState p = .standby ∧ (d.stations.get p).quiet = false ∧ d.hasTransform p = true ∧ (d.ports.get p).state = .accepting := by
  simp [Device.eligible, and_assoc]

/-- Whether some station is SEARCHING. -/
theorem Device.anySearching_iff (d : Device) : d.anySearching = true ↔ ∃ p, d.stationState p = .searching := by
  simp [Device.anySearching, allPorts, Fin.exists_fin_succ]

/-- Whether some port is in search_pending. -/
theorem Device.anyPending_iff (d : Device) : d.anyPending = true ↔ ∃ p, d.track.searchPending.get p = true := by
  simp [Device.anyPending, allPorts, Fin.exists_fin_succ]

/-- A RELEASE adds no order and no PASS frame, and leaves one RELEASE more only where none waited (R29, R160). -/
theorem LinkPort.placeRelease_counts (l : LinkPort) (reason : ReleaseReason) :
    ((l.placeRelease reason).control.countP OutFrame.isOrder = l.control.countP OutFrame.isOrder) ∧
    ((l.placeRelease reason).control.countP OutFrame.isPass = l.control.countP OutFrame.isPass) ∧
    ((l.placeRelease reason).control.countP OutFrame.isRelease = max 1 (l.control.countP OutFrame.isRelease)) := by
  have same : ∀ (test : OutFrame → Bool), (∀ f, test (if f.isRelease then .release reason else f) = test f) →
      (l.control.map fun f => if f.isRelease then .release reason else f).countP test = l.control.countP test := by
    intro test h
    rw [List.countP_map]
    exact List.countP_congr fun f _ => by simp [Function.comp, h f]
  unfold LinkPort.placeRelease
  split
  · rename_i some_
    have waits : 0 < l.control.countP OutFrame.isRelease := by
      rw [List.countP_pos_iff]
      simpa using some_
    refine ⟨same _ fun f => ?_, same _ fun f => ?_, ?_⟩
    · cases f <;> rfl
    · cases f <;> rfl
    · rw [same _ fun f => ?_]
      · omega
      · cases f <;> rfl
  · rename_i none_
    have waits : l.control.countP OutFrame.isRelease = 0 := by
      rw [List.countP_eq_zero]
      simpa using none_
    refine ⟨by simp [LinkPort.place, OutFrame.isOrder], by simp [LinkPort.place, OutFrame.isPass], ?_⟩
    rw [LinkPort.place, List.countP_append, waits]
    rfl

/-- The end of an order leaves no order waiting, and every other frame (R28). -/
theorem LinkPort.endOrder_counts (l : LinkPort) :
    l.endOrder.control.countP OutFrame.isOrder = 0 ∧
    l.endOrder.control.countP OutFrame.isRelease = l.control.countP OutFrame.isRelease ∧
    l.endOrder.control.countP OutFrame.isPass = l.control.countP OutFrame.isPass := by
  refine ⟨?_, ?_, ?_⟩
  · simp [LinkPort.endOrder, List.countP_eq_zero]
  all_goals
    simp only [LinkPort.endOrder, List.countP_filter]
    refine List.countP_congr fun f _ => ?_
    cases f <;> simp [OutFrame.isOrder, OutFrame.isRelease, OutFrame.isPass]

/-! ## The query queue (R133) -/

/-- A request in the queue after a placement is the one placed, or one of another station that waited. -/
theorem Xfu.mem_placeInverse (x : Xfu) (r q : InverseRequest) (h : q ∈ (x.placeInverse r).queryQueue) :
    q = r ∨ (q ∈ x.queryQueue ∧ q.station ≠ r.station) := by
  unfold Xfu.placeInverse at h
  split at h
  · obtain ⟨k, hk, rfl⟩ := List.mem_map.mp h
    by_cases same : k.station = r.station
    · exact .inl (by simp [same])
    · exact .inr (by simpa [same] using hk)
  · rename_i absent
    rcases List.mem_append.mp h with old | new
    · exact .inr ⟨old, fun same => absent (List.any_eq_true.mpr ⟨q, old, by simpa using same⟩)⟩
    · exact .inl (by simpa using new)

/-- A placement keeps one request per station. -/
theorem Xfu.placeInverse_nodup (x : Xfu) (r : InverseRequest) (h : (x.queryQueue.map (·.station)).Nodup) :
    ((x.placeInverse r).queryQueue.map (·.station)).Nodup := by
  unfold Xfu.placeInverse
  split
  · have stations : (x.queryQueue.map fun q => if q.station = r.station then r else q).map (·.station) =
        x.queryQueue.map (·.station) := by
      rw [List.map_map]
      refine List.map_congr_left fun q _ => ?_
      by_cases same : q.station = r.station <;> simp [same]
    simpa only [stations] using h
  · rename_i absent
    simp only [List.map_append, List.map_cons, List.map_nil]
    refine List.nodup_append.mpr ⟨h, by simp, ?_⟩
    intro a ha b hb same
    obtain rfl : b = r.station := by simpa using hb
    obtain ⟨q, hq, rfl⟩ := List.mem_map.mp ha
    exact absent (List.any_eq_true.mpr ⟨q, hq, by simpa using same⟩)

/-! ## The record FIFO (R166, R167) -/

/-- A produced record is counted, and joins the FIFO at the back or is counted dropped. -/
theorem Engine.join_cases (e : Engine) (r : Record) :
    (e.join r = { e with produced := e.produced + 1, dropped := e.dropped + 1 } ∧ (e.state = .disabled ∨ 16 ≤ e.fifo.length)) ∨
    (e.join r = { e with produced := e.produced + 1, fifo := e.fifo ++ [r] } ∧ e.state ≠ .disabled ∧ e.fifo.length < 16) := by
  unfold Engine.join
  split
  · rename_i h
    simp only [Config.fifoCapacity] at h
    exact .inl ⟨rfl, by simpa using h⟩
  · rename_i h
    simp only [Config.fifoCapacity] at h
    refine .inr ⟨rfl, ?_⟩
    simpa [not_or] using h

/-- Whether a write is in flight (R171). -/
theorem Engine.writeInFlight_iff (e : Engine) :
    e.writeInFlight = true ↔
      (∃ a b l, e.access = some (.recordWrite a b l)) ∨ (∃ u x a b l, e.access = some (.writeback u x a b l)) := by
  unfold Engine.writeInFlight
  split <;> simp_all

/-- Whether a START is held (R171). -/
theorem Engine.startHeld_iff (e : Engine) : e.startHeld = true ↔ ∃ a, e.held = some (.start a) := by
  unfold Engine.startHeld
  split <;> simp_all

/-! ## The sight maps (R83 to R86, R94) -/

/-- Learning writes at most one cell, and keeps the list's one form. -/
theorem Smu.learn_cases (m : Smu) (r : LearnRequest) :
    (m.learn r = m ∧ bearingCell r.station r.az r.el = none) ∨
    ∃ a, bearingCell r.station r.az r.el = some a ∧
      m.learn r = { m with cells := writeCell m.cells a (r.event.apply (readCell m.cells a)) } := by
  unfold Smu.learn
  split
  · exact .inr ⟨_, by assumption, rfl⟩
  · exact .inl ⟨rfl, by assumption⟩

/-- Learning leaves every FIXED cell as it is (R84). -/
theorem LearnEvent.apply_fixed (e : LearnEvent) (c : CellState) (h : c = .fixedClear ∨ c = .fixedBlocked) : e.apply c = c := by
  rcases h with rfl | rfl <;> rfl

/-- Learning keeps the one form of the cells. -/
theorem Smu.learn_wellFormed (m : Smu) (r : LearnRequest) (h : cellsWellFormed m.cells = true) :
    cellsWellFormed (m.learn r).cells = true := by
  rcases m.learn_cases r with ⟨same, -⟩ | ⟨a, -, wrote⟩
  · rwa [same]
  · rw [wrote]
    exact writeCell_wellFormed _ _ h

/-- The application of a latch is learning, or nothing, on the cells. -/
theorem Smu.applyLatch_cells (m : Smu) (p : Port) :
    (m.applyLatch p).cells = match m.latches.get p with | some r => (m.learn r).cells | none => m.cells := by
  unfold Smu.applyLatch
  cases m.latches.get p <;> rfl

/-- A learning request on arrival is discarded, latched or applied (R83). -/
theorem Smu.judgeLearning_cases (m : Smu) (learning : Bool) (r : LearnRequest) :
    m.judgeLearning learning r = m ∨ m.judgeLearning learning r = m.latch r ∨ m.judgeLearning learning r = m.learn r := by
  unfold Smu.judgeLearning
  repeat' split
  all_goals simp

/-- A cell address on the map lies within its station's map. -/
theorem bearingCell_lt (p : Port) (az el : Half) (a : Nat) (h : bearingCell p az el = some a) :
    65536 * p.val ≤ a ∧ a < 65536 * (p.val + 1) := by
  unfold bearingCell at h
  split at h
  · rename_i on
    rw [rowOnMap, Bool.and_eq_true, decide_eq_true_eq, decide_eq_true_eq] at on
    have row : 0 ≤ rowOf el ∧ rowOf el < 128 := on
    simp only [cellAddress, Config.mapCells, Config.mapColumns, columnOf, Option.some.injEq] at h
    have := az.isLt
    omega
  · exact absurd h (by simp)

/-! ## The transform unit (R135 to R138) -/

/-- A job starts an operation, or is dropped and counted. -/
theorem Xfu.startJob_cases (x : Xfu) (station : Port) (j : Job) :
    ((x.records.get station).loaded = true ∧ x.startJob station j = { x with operation := some ⟨j, (x.records.get station).values⟩ }) ∨
    ((x.records.get station).loaded = false ∧ x.startJob station j = { x with grantDrops := countUp x.grantDrops }) := by
  unfold Xfu.startJob
  split
  · exact .inl ⟨by assumption, rfl⟩
  · exact .inr ⟨by simp_all, rfl⟩

/-- A rotation changes the pointer and the pair flag alone. -/
theorem Xfu.rotate_leaves (x : Xfu) (r : Requester) :
    x.rotate r = { x with pointer := (x.rotate r).pointer, pairFlag := (x.rotate r).pairFlag } := by
  unfold Xfu.rotate
  repeat' split
  all_goals rfl

/-! ## The sending half (R145) -/

/-- A frame that is no longer its station's current order is the same characters. -/
@[simp] theorem InFlight.notCurrent_chars (f : InFlight) : f.notCurrent.chars = f.chars := rfl

/-- What a port can put on its line (R145): nothing new while an EOF goes out; the oldest waiting answer; a character of the frame it
sends, with no answer waiting; or IDLE, with no answer waiting and no frame SENDING. -/
theorem LinkPort.sendCharacter_cases (l : LinkPort) :
    (l.eofGoing = true ∧ l.sendCharacter = l) ∨
    (∃ a rest, l.answers = a :: rest ∧ l.sendCharacter = { l with line := a.char, answers := rest }) ∨
    (∃ f n c, l.answers = [] ∧ l.sending = .sending f n ∧ f.chars[n]? = some c ∧
      l.sendCharacter = { l with line := c, sending := .sending f (n + 1) }) ∨
    (l.answers = [] ∧ (∀ f n, l.sending ≠ .sending f n) ∧ l.sendCharacter = { l with line := .control idleCode }) := by
  by_cases going : l.eofGoing = true
  · exact .inl ⟨going, if_pos going⟩
  · rw [LinkPort.sendCharacter, if_neg going]
    obtain ⟨_, _, _, _, _, answers, _, _, _, sending, _, _, _, _, _, _, _⟩ := l
    cases answers with
    | cons a rest => exact .inr (.inl ⟨a, rest, rfl, rfl⟩)
    | nil =>
      cases sending with
      | sending f n =>
        have more : n < f.chars.length := by simpa [LinkPort.eofGoing] using going
        exact .inr (.inr (.inl ⟨f, n, f.chars[n], rfl, rfl, by simp [more], by simp [LinkPort.sendOfFrame, more]⟩))
      | idle => exact .inr (.inr (.inr ⟨rfl, by simp, rfl⟩))
      | awaiting f => exact .inr (.inr (.inr ⟨rfl, by simp, rfl⟩))

/-- Putting a character on the line changes nothing of a port but the line, the waiting answers and the count of characters sent. -/
theorem LinkPort.sendCharacter_leaves (l : LinkPort) :
    l.sendCharacter =
      { l with line := l.sendCharacter.line, answers := l.sendCharacter.answers, sending := l.sendCharacter.sending } ∧
    l.sendCharacter.inFlight = l.inFlight := by
  rcases l.sendCharacter_cases with ⟨-, h⟩ | ⟨a, rest, -, h⟩ | ⟨f, n, c, -, sending, -, h⟩ | ⟨-, -, h⟩ <;> rw [h] <;>
    simp [LinkPort.inFlight, *]

/-- The partial frames of a port stay as far as a frame goes. -/
theorem LinkPort.sendCharacter_framing {l : LinkPort} (h : l.Framing) : l.sendCharacter.Framing := by
  have kept := l.sendCharacter_leaves.1
  refine ⟨by rw [kept]; exact h.training, by rw [kept]; exact h.collected, fun f n sending => ?_⟩
  rcases l.sendCharacter_cases with ⟨-, e⟩ | ⟨a, rest, -, e⟩ | ⟨g, m, c, -, -, at_, e⟩ | ⟨-, -, e⟩ <;> rw [e] at sending
  · exact h.sent f n sending
  · exact h.sent f n sending
  · obtain ⟨rfl, rfl⟩ : g = f ∧ m + 1 = n := by simpa using sending
    exact (List.getElem?_eq_some_iff.mp at_).1
  · exact h.sent f n sending

/-! ## A running map command (R93 to R101) -/

/-- A rectangle's k-th cell lies in it: its row offset below the height, and its column offset below the width. -/
theorem rectangle_offsets {width height k : Nat} (h : k < width * height) : k / width < height ∧ k % width < width := by
  have wide : 0 < width := Nat.pos_of_ne_zero fun e => by simp [e] at h
  exact ⟨Nat.div_lt_of_lt_mul h, Nat.mod_lt _ wide⟩

/-- A command that has not finished has visited fewer cells than its length. -/
theorem MapCommand.lt_length {c : MapCommand} {k : Nat} (h : c.finished k = false) : k < c.length := by
  unfold MapCommand.finished at h
  rw [Bool.or_eq_false_iff] at h
  simpa using h.1

/-- A cell of a column and a row on the map lies in the four maps (R78). -/
theorem cellAddress_lt (p : Port) {column row : Nat} (hc : column < 512) (hr : row < 128) :
    cellAddress p column row < Config.allCells := by
  simp only [cellAddress, Config.mapCells, Config.mapColumns, Config.allCells]
  omega

/-- A running command with its parameters in range writes a cell of the maps (R93). -/
theorem RunningCommand.writes_lt {c : RunningCommand} (runs : c.Runs) {cells : List (Nat × CellState)} {a : Nat} {v : CellState}
    (h : c.command.writes cells c.visited = some (a, v)) : a < Config.allCells := by
  obtain ⟨command, k⟩ := c
  obtain ⟨inRange, unfinished⟩ := runs
  have more : k < command.length := MapCommand.lt_length unfinished
  cases command with
  | fill p column row width height w =>
    obtain ⟨rfl, -⟩ : _ = a ∧ _ := by simpa [MapCommand.writes] using h
    have offsets : k / width < height ∧ k % width < width := rectangle_offsets more
    have := inRange.2.2.2.2
    exact cellAddress_lt p (Nat.mod_lt _ (by decide)) (by omega)
  | copy s sc sr t column row width height columnsDown rowsDown =>
    obtain ⟨rfl, -⟩ : _ = a ∧ _ := by simpa [MapCommand.writes] using h
    have offsets : k / width < height ∧ k % width < width := rectangle_offsets more
    have := inRange.2.2.2.2.2.2
    refine cellAddress_lt t (Nat.mod_lt _ (by decide)) ?_
    generalize k / width = rows at offsets ⊢
    unfold orderedOffset
    split <;> omega
  | line p column row count columnStep rowStep w =>
    obtain ⟨rfl, -⟩ : _ = a ∧ _ := by simpa [MapCommand.writes] using h
    have onMap : rowOnMap (lineRow row rowStep k) = true := by
      simpa [MapCommand.finished] using (Bool.or_eq_false_iff.mp unfinished).2
    simp only [rowOnMap, Config.mapRows, Bool.and_eq_true, decide_eq_true_eq] at onMap
    refine cellAddress_lt p ?_ ((Int.toNat_lt onMap.1).mpr (of_decide_eq_true onMap.2))
    unfold lineColumn
    omega
  | run => simp [MapCommand.writes] at h
  | clear p =>
    cases p with
    | none =>
      obtain ⟨rfl, -⟩ : _ = a ∧ _ := by simpa [MapCommand.writes] using h
      exact more
    | some p =>
      obtain ⟨rfl, -⟩ : _ = a ∧ _ := by simpa [MapCommand.writes] using h
      have : k < 65536 := more
      simp only [Config.mapCells, Config.allCells]
      omega

end Sys2Proof.Machine
end

