-- ==== Sys2Proof/Tests/Slice0.lean ====
section
/-! SUPPORT. Tests: an ill-formed command for each check of WellFormed, the worked examples of the data book, and for each statement with
hypotheses a witness that meets them. -/

namespace Sys2Proof.Tests

open Sys2Proof Sys2Proof.Machine

/-! ## Small machines -/

/-- The part after a hardware reset. -/
def base : Device := State.reset.device

/-- The part as a command leaves it. -/
def after (c : Instr) (d : Device) : Device :=
  match exec c ⟨d, []⟩ with
  | .next s => s.device
  | _ => base

/-- The part as commands leave it one after another. -/
def afterAll (cs : List Instr) (d : Device) : Device :=
  match cs with
  | [] => d
  | c :: rest => afterAll rest (after c d)

/-- Parameter words, P0 first. -/
def withParameters (d : Device) (p0 p1 p2 p3 p4 p5 p6 p7 : Word) : Device :=
  { d with sbi := { d.sbi with parameters := ⟨p0, p1, p2, p3, p4, p5, p6, p7⟩ } }

/-- The identity transform of a station that stands at the block's origin. -/
def upright : TransformValues := ⟨0x40000000, 0, 0, 0, 0x40000000, 0, 0, 0, 0x40000000, 0, 0, 0⟩

/-- A station in STANDBY. -/
def waiting : Station := { Station.reset with state := .standby }

/-- A port in ACCEPTING. -/
def open_ : LinkPort := { LinkPort.reset with state := .accepting }

/-- A port that sends an IDREQ with seq 5, so many of its six characters on the line, and answers that wait. -/
def sendingPort (sent : Nat) (answers : List LinkAnswer) : LinkPort :=
  { open_ with sending := .sending ⟨.idreq, 5, false⟩ sent, answers := answers }

/-- Four surveyed stations in STANDBY, the sweep over, TB at 1,000. -/
def ready : Device :=
  { base with
    tb := 1000
    stations := .same waiting
    ports := .same open_
    xfu := .resetWith (.same ⟨true, upright⟩)
    smu := .resetWith [] none }

/-- A bearing record with an answer to its query of tag 38, as old as the time given. -/
def bearingOf (time : Word) (cell : CellState) (s : Station) : Station :=
  { s with query := some ⟨38, ⟨10, 20, 30⟩, time⟩, answer := some ⟨38, true, 5000, 640, cell, time⟩ }

/-- Station 0 owns the reflector; 1 answers from a CLEAR cell, 2 from an UNKNOWN one, 3 from a BLOCKED one. -/
def tracked : Device :=
  { ready with
    stations := ⟨{ waiting with state := .owner }, bearingOf 900 .clear waiting, bearingOf 900 .unknown waiting,
                 bearingOf 900 .blocked waiting⟩
    track := { Track.reset with
      state := .tracking, owner := some 0, lastUpdate := 900
      deadlines := { Deadlines.absent with query := some 999 } } }

/-- Station 1 takes over from station 0. -/
def taking : Device :=
  { tracked with
    stations := tracked.stations.set 1 { tracked.stations.get 1 with state := .taking }
    track := { tracked.track with
      state := .handoff, candidate := some 1, currentOrder := ⟨none, some .take, none, none⟩
      deadlines := { tracked.track.deadlines with handoff := some 999 } } }

/-- The owner's beam is broken. -/
def coasting : Device :=
  { tracked with track := { tracked.track with
      state := .coast, blind := true
      deadlines := { tracked.track.deadlines with coast := some 999, output := some 999 } } }

/-- A handoff begun while the owner is blind. -/
def blindTaking : Device :=
  { taking with track := { taking.track with
      blind := true, deadlines := { taking.track.deadlines with coast := some 999, output := some 999 } } }

/-- Stations 1 and 2 search about a point. -/
def searching : Device :=
  { ready with
    stations := ⟨waiting, { waiting with state := .searching }, { waiting with state := .searching }, waiting⟩
    track := { Track.reset with
      state := .search, searchPoint := some ⟨0, 0, 0⟩, searchPending := ⟨false, false, false, true⟩
      currentOrder := ⟨none, some .search, some .search, none⟩
      deadlines := { Deadlines.absent with search := some 999 } } }

/-- Stations 1 and 2 search for a first lock. -/
def acquiring : Device :=
  { searching with track := { searching.track with
      state := .acquire, searchPoint := none, searchPending := .same false, acquireMask := .same true } }

/-! ## Ill-formed commands -/

theorem test_refuses_unaligned_write : Instr.wellFormed (.registerWrite 0x002 0) = false := by decide

theorem test_refuses_empty_check_failure : Instr.wellFormed (.frameCheckFail 0 []) = false := by decide

theorem test_refuses_good_frame_as_check_failure :
    Instr.wellFormed (.frameCheckFail 0 ((frameBytes kindFail 1 [2, 3]).map .data ++ [.control eofCode])) = false := by decide

theorem test_refuses_control_inside_check_failure :
    Instr.wellFormed (.frameCheckFail 0 [.control brkCode, .control eofCode]) = false := by decide

theorem test_accepts_short_check_failure : Instr.wellFormed (.frameCheckFail 0 [.data 0x10, .control eofCode]) = true := by decide

theorem test_refuses_long_format_failure : Instr.wellFormed (.formatFail 0 0x20 0 (List.replicate 25 0)) = false := by decide

theorem test_refuses_good_frame_as_format_failure : Instr.wellFormed (.formatFail 0 kindFail 0 [1, 2]) = false := by decide

theorem test_refuses_break_reasons :
    Instr.wellFormed (.breakFrame 0 0 ⟨0, 0, 0, 0, 0⟩) = false ∧ Instr.wellFormed (.breakFrame 0 0 ⟨0, 0, 0, 4, 0⟩) = false := by decide

theorem test_refuses_bearing_reach : Instr.wellFormed (.bearing 0 0 ⟨0, 2, 0, 0⟩) = false := by decide

theorem test_refuses_long_pass : Instr.wellFormed (.pass 0 0 (List.replicate 25 0)) = false := by decide

theorem test_refuses_control_as_data : Instr.wellFormed (.dataCharacter 0 (.control idleCode)) = false := by decide

theorem test_refuses_known_code : Instr.wellFormed (.unknownCommandCode 0x42) = false := by decide

/-- No row of the table gives bits. -/
theorem test_no_word_spells_a_command : decodeTableWord 32 0 = none := by decide

/-! ## Worked examples of the data book -/

/-- A forward operation of a port in flight under the identity transform. -/
def measuring (d : Device) (p : Port) (kind : ReportKind) (point : Vec3) (az el : Half) (time : Word) (seq : Byte) : Device :=
  { d with xfu := { d.xfu with operation := some ⟨.forward p ⟨kind, point, az, el, time, false, seq⟩, upright⟩ } }

/-- The track of 01_the_track.md, Worked example: a filter run, before the first event, on an engine that takes records. -/
def filterRun : Device :=
  { ready with
    stations := ⟨waiting, { waiting with state := .owner }, waiting, waiting⟩
    engine := { Engine.reset with state := .idle }
    track := { Track.reset with
      state := .tracking, owner := some 1, position := ⟨1000000, 2500000, -400000⟩, velocity := ⟨200000, -50000, 0⟩
      lastUpdate := 5000000, ownerAngles := some ⟨1000, 0, 5000000⟩, recordSeq := 41 } }

/-- Event 1 of the filter run. -/
def filterEvent1 : Device :=
  after .xfuCompletion (measuring filterRun 1 .obs ⟨1002600, 2499100, -399760⟩ 1130 70 5010000 17)

theorem test_filter_update :
    filterEvent1.track.position = ⟨1002300, 2499300, -399880⟩ ∧ filterEvent1.track.velocity = ⟨207500, -55000, 3000⟩ ∧
    filterEvent1.smu.scans = [⟨1, 1130, 70, 1780, 420, none⟩] := by decide

theorem test_filter_record :
    filterEvent1.engine.fifo = [⟨41, .update, 1, 5010000, ⟨1002300, 2499300, -399880⟩, ⟨208, -55, 3⟩, 600,
      ⟨false, false, false, false, false, false⟩, .tracking, 17⟩] := by decide

/-- Events 2 to 4: a stale observation and two outliers. -/
def filterEvent4 : Device :=
  after .xfuCompletion (measuring
    (after .xfuCompletion (measuring
      (after .xfuCompletion (measuring filterEvent1 1 .obs ⟨1002600, 2499100, -399760⟩ 1130 70 5007000 18))
      1 .obs ⟨1080000, 2498700, -399800⟩ 1400 90 5020000 19))
    1 .obs ⟨1086000, 2498200, -399700⟩ 1600 110 5030000 20)

theorem test_filter_stale_and_outliers :
    filterEvent4.track.counters.stale = 1 ∧ filterEvent4.track.counters.outliers = 2 ∧ filterEvent4.track.outlierRun = 2 ∧
    filterEvent4.track.lastUpdate = 5010000 ∧ filterEvent4.track.recordSeq = 42 := by decide

/-- Event 5: the third outlier reseeds the track. -/
theorem test_filter_reseed :
    let d := after .xfuCompletion (measuring filterEvent4 1 .obs ⟨1092000, 2497800, -399600⟩ 1902 130 5040000 21)
    d.track.position = ⟨1092000, 2497800, -399600⟩ ∧ d.track.velocity = ⟨0, 0, 0⟩ ∧ d.track.recordSeq = 43 ∧
    d.track.counters.reseeds = 1 ∧ d.track.counters.accepted = 2 ∧ d.track.counters.outliers = 3 := by decide

/-- The part of 02_beam_ownership_and_handoff.md, Worked example: a handoff across a frame web, at event 1. -/
def webStart : Device :=
  { tracked with
    tb := 8004001
    params := { Params.reset with tieMode := .rotating }
    track := { tracked.track with deadlines := { Deadlines.absent with query := some 8004000 } } }

theorem test_query_tick_asks_standby_stations :
    (after .queryDeadlineExpiry webStart).xfu.queryQueue.map (fun r => r.station) = [1, 2, 3] ∧
    (after .queryDeadlineExpiry webStart).track.deadlines.query = some 8024001 := by decide

/-- Event 3: the scan names an obstacle at step 6. -/
def webTaking : Device :=
  after .pathScanResult { webStart with
    tb := 8010500
    stations := ⟨{ waiting with state := .owner }, bearingOf 8006000 .clear waiting, bearingOf 8006400 .unknown waiting,
                 bearingOf 8006900 .blocked waiting⟩
    smu := { webStart.smu with scans := [⟨0, 0, 0, 0, 0, some ⟨some 6, 0, false⟩⟩] } }

theorem test_predicted_break_takes_good_station :
    webTaking.track.state = .handoff ∧ webTaking.track.candidate = some 1 ∧ webTaking.track.lastTakePort = 1 ∧
    webTaking.track.deadlines.handoff = some 8160500 ∧ (webTaking.ports.get 1).control = [.take ⟨10, 20, 30⟩] := by decide

/-- Event 9: the candidate's LOCK, after a break at event 7, is confirmed and completes the handoff. -/
def webDone : Device :=
  after .xfuCompletion (measuring
    { webTaking with
      tb := 8048000
      track := { webTaking.track with
        blind := true, position := ⟨4000000, 1000000, 500000⟩, velocity := ⟨300000, 0, -20000⟩, lastUpdate := 8020000
        deadlines := { webTaking.track.deadlines with coast := some 8331000, output := some 8051001 } } }
    1 .lock ⟨4012100, 998600, 499900⟩ 0 0 8046000 9)

theorem test_take_confirmation_applies_lock :
    webDone.track.position = ⟨4009950, 999300, 499690⟩ ∧ webDone.track.velocity = ⟨320673, -6731, -17981⟩ := by decide

theorem test_take_confirmation_completes_handoff :
    webDone.track.state = .tracking ∧ webDone.track.owner = some 1 ∧ webDone.track.candidate = none ∧ webDone.track.blind = false ∧
    webDone.stationState 0 = .standby ∧ webDone.stationState 1 = .owner ∧
    (webDone.ports.get 0).control = [.release .handedOff] ∧ webDone.track.deadlines.coast = none := by decide

/-- 03_coasting_search_and_loss.md, Worked example: the owner's BREAK starts the coast. -/
def coastStart : Device :=
  after (.breakFrame 0 5 ⟨0, 0, 0, 1, 0⟩) { tracked with
    tb := 20000000
    engine := { Engine.reset with state := .idle }
    track := { tracked.track with
      position := ⟨6000000, 2000000, 800000⟩, velocity := ⟨100000, -40000, 0⟩, lastUpdate := 19995000, noCandidate := true
      recordSeq := 300 } }

theorem test_owner_break_starts_coast :
    coastStart.track.state = .coast ∧ coastStart.track.blind = true ∧ coastStart.track.deadlines.coast = some 20300000 ∧
    coastStart.track.deadlines.output = some 20010000 ∧ coastStart.smu.learnQueue.map (fun r => r.event) = [.lost] := by decide

theorem test_output_tick_predicts :
    (after .outputDeadlineExpiry { coastStart with tb := 20010001 }).engine.fifo.drop 1 =
      [⟨301, .predicted, 0xFF, 20010001, ⟨6001500, 1999400, 800000⟩, ⟨100, -40, 0⟩, 0, ⟨false, false, false, true, false, true⟩,
        .coast, 0⟩] := by decide

theorem test_coast_deadline_freezes_search_point :
    let d := after .coastDeadlineExpiry { coastStart with tb := 20300001 }
    d.track.state = .search ∧ d.track.searchPoint = some ⟨6030500, 1987800, 800000⟩ ∧
    d.xfu.queryQueue.map (fun r => r.station) = [0, 1, 2, 3] ∧ d.track.deadlines.search = some 25300001 := by decide

/-- Event 52 of the coast: a LOCK 379,500 µm from the search point on x. -/
theorem test_search_refuses_far_lock :
    let d := after .xfuCompletion (measuring
      { searching with track := { searching.track with searchPoint := some ⟨6030500, 1987800, 800000⟩, lastUpdate := 19995000 } }
      1 .lock ⟨6410000, 1900000, 810000⟩ 0 0 20610000 3)
    d.stationState 1 = .standby ∧ (d.ports.get 1).control = [.release .outOfRadius] ∧ d.track.state = .search := by decide

/-- Map 0 of 04_sight_maps.md, Worked example: a path scan, and a scan request. -/
def scanned (s : Scan) : Option PathResult :=
  let d := { ready with smu := { ready.smu with
    cells := [(32775, .clear), (33288, .clear), (33289, .suspect), (33802, .clear), (34316, .clear), (34317, .blocked)]
    scans := [s] } }
  (after .pathScan d).smu.scans.head?.bind fun s => s.result

theorem test_scan_meets_obstacle : scanned ⟨0, 1000, 0, 2300, 700, none⟩ = some ⟨some 6, 1, false⟩ := by decide

theorem test_scan_crosses_seam : scanned ⟨0, 64000, -512, 7680, -512, none⟩ = some ⟨none, 0, true⟩ := by decide

theorem test_scan_leaves_map : scanned ⟨0, 0, 7900, 0, 9770, none⟩ = some ⟨none, 0, false⟩ := by decide

/-- Row 40 of map 2 in the worked example of an overlapping copy, and the part with the copy accepted. -/
def copying (columnOrder : Word) : Device :=
  after .mapCopy (withParameters
    { ready with smu := { ready.smu with
      cells := [(151652, .clear), (151653, .suspect), (151654, .blocked), (151655, .fixedBlocked)] } }
    2 100 40 2 101 40 0x00010004 columnOrder)

/-- Row 40, columns 100 to 104, of map 2. -/
def row40 (d : Device) : List CellState := [151652, 151653, 151654, 151655, 151656].map (readCell d.smu.cells)

theorem test_copy_forward_smears :
    row40 (afterAll (List.replicate 4 .mapCellStep) (copying 0)) = [.clear, .clear, .clear, .clear, .clear] := by decide

theorem test_copy_backward_shifts :
    let d := afterAll (List.replicate 4 .mapCellStep) (copying 1)
    row40 d = [.clear, .clear, .suspect, .blocked, .fixedBlocked] ∧ d.smu.status.result = .done ∧ d.smu.status.cellsWritten = 4 ∧
    d.notices.flags = 0x800 := by decide

theorem test_copy_aborted_applies_latch :
    let d := afterAll [.mapCellStep, .mapCellStep] (copying 1)
    let held := { d with smu := { d.smu with latches := ⟨none, none, some ⟨.link 2, 2, 12800, -3072, .lost⟩, none⟩ } }
    row40 (after .mapAbort held) = [.suspect, .suspect, .blocked, .blocked, .fixedBlocked] ∧
    (after .mapAbort held).smu.status.result = .aborted := by decide

/-- 05_stations.md, Worked example: one station's bearing record, at event 3. -/
def bearingStart : Device :=
  { tracked with
    tb := 10021000
    stations := tracked.stations.set 1 { waiting with
      query := some ⟨41, ⟨1, 2, 3⟩, 10020500⟩, counters := ⟨0, 0, 0, 210, 3⟩ } }

theorem test_late_bearing_mismatches :
    ((after (.bearing 1 0 ⟨40, 1, 29800, 1950⟩) bearingStart).stations.get 1).counters = ⟨0, 0, 0, 210, 4⟩ := by decide

theorem test_bearing_asks_lookup :
    let d := after (.bearing 1 0 ⟨41, 1, 30000, 2000⟩) { bearingStart with tb := 10021300 }
    d.smu.lookups = [⟨1, 41, true, 30000, 2000, 10021300, none, false⟩] ∧ (d.stations.get 1).counters.bearings = 211 := by decide

/-- Cell (234, 79) of map 1 holds SUSPECT. -/
theorem test_bearing_answer_stored :
    let asked := { bearingStart with smu := { bearingStart.smu with
      cells := [(106218, .suspect)], lookups := [⟨1, 41, true, 30000, 2000, 10021300, none, false⟩] } }
    ((afterAll [.pointLookup 1, .lookupResult 1] asked).stations.get 1).answer =
      some ⟨41, true, 30000, 2000, .suspect, 10021300⟩ := by decide +kernel

/-- The survey of 06_the_transform_unit.md, Worked example: a quarter-turn station. -/
def quarterTurn : TransformValues := ⟨0, -0x40000000, 0, 0x40000000, 0, 0, 0, 0, 0x40000000, 12000000, -3500000, 1200000⟩

theorem test_quarter_turn :
    quarterTurn.forward ⟨5000000, 2000000, -300000⟩ = ⟨10000000, 1500000, 900000⟩ ∧
    quarterTurn.inverse ⟨10000000, 1500000, 900000⟩ = ⟨5000000, 2000000, -300000⟩ := by decide

theorem test_transform_rounds_halves_away :
    let v : TransformValues := { TransformValues.zero with m11 := 0x20000000 }
    [3, -3, 1, -1].map (fun x => (v.forward ⟨x, 0, 0⟩).x) = [2, -2, 1, -1] := by decide

theorem test_transform_saturates :
    let v := { upright with tx := 2000000000 }
    (v.forward ⟨200000000, 0, 0⟩).saturate32.x = 2147483647 ∧ (v.inverse ⟨-2147483648, 0, 0⟩).saturate32.x = -2147483648 := by decide

/-- An ingest entry with a seq. -/
def entryOf (seq : Byte) : IngestEntry := ⟨.obs, ⟨0, 0, 0⟩, 0, 0, 0, false, seq⟩

/-- The queues of 06_the_transform_unit.md, Worked example: arbitration with PAIR mode. -/
def paired : Device :=
  { ready with xfu := { ready.xfu with
      pairMode := true, outstanding := ⟨3, 2, 2, 2⟩, queryQueue := [⟨3, .query, ⟨0, 0, 0⟩⟩]
      ingest := ⟨[entryOf 1, entryOf 2, entryOf 3], [], [entryOf 11, entryOf 12], []⟩ } }

/-- The unit after some grants, each operation completed before the next grant. -/
def granted (n : Nat) : Xfu := (afterAll (List.replicate n [.xfuGrant, .xfuCompletion]).flatten paired).xfu

theorem test_pair_arbitration :
    [1, 2, 3, 4, 5].map (fun n => (granted n).pairFlag) = [true, false, true, false, false] ∧
    [1, 2, 3, 4, 5].map (fun n => (granted n).pointer) = [.port 0, .port 1, .port 2, .port 3, .port 0] ∧
    (granted 5).ingest = ⟨[entryOf 3], [], [], []⟩ ∧ (granted 5).queryQueue = [] := by decide

/-- Port 2 of 07_station_links.md, Worked example: a refused frame during a take, awaiting the answer to its TAKE. -/
def linkTaking : Device :=
  { taking with
    tb := 4000400
    stations := ⟨{ waiting with state := .owner }, waiting, { waiting with state := .taking }, waiting⟩
    track := { taking.track with candidate := some 2, currentOrder := ⟨none, none, some .take, none⟩ }
    ports := (taking.ports).set 2 { open_ with
      sending := .awaiting ⟨.take ⟨1, 2, 3⟩, 17, true⟩, answerDeadline := some 4001260, seqCounter := 18
      slot := some (61, ⟨4, 5, 6⟩), counters := ⟨501, 2, 300, 1, 0⟩ } }

theorem test_nak_fails_take :
    let d := after (.nak 2) linkTaking
    d.track.state = .tracking ∧ d.track.failure.reason = some .undelivered ∧ (d.ports.get 2).counters.undelivered = 2 ∧
    d.stationState 2 = .standby := by decide

/-- Events 7 and 8: the POINT leaves with seq 18, and a frame with a parity error at position 6 is refused. -/
def linkRefused : Device :=
  after (.frameCheckFail 2 ([.data 0x10, .data 1, .data 20, .data 0, .data 0, .parityError] ++ [.control eofCode]))
    { after (.outboundFrameTake 2) (after (.nak 2) linkTaking) with tb := 4000700 }

theorem test_parity_error_refuses :
    let l := linkRefused.ports.get 2
    l.state = .refusing ∧ l.flags.parity = true ∧ l.capture = ⟨.parity, 6, some 0x10, 4000700⟩ ∧ l.counters.naksSent = 3 ∧
    l.sending = .sending ⟨.point 61 ⟨4, 5, 6⟩, 18, false⟩ 0 ∧ l.seqCounter = 19 ∧ linkRefused.notices.flags.getLsbD 2 = true := by decide

/-- Events 9 to 12: a SOF in REFUSING is answered NAK, an ACK delivers the POINT, and a BRK brings ACCEPTING back. -/
theorem test_refusing_port_recovers :
    let l := (afterAll [.eofSent 2, .sof 2, .ack 2] linkRefused).ports.get 2
    l.state = .refusing ∧ l.counters = ⟨501, 4, 301, 2, 0⟩ ∧ l.sending = .idle ∧
    ((afterAll [.eofSent 2, .sof 2, .ack 2, .brk 2] linkRefused).ports.get 2).state = .accepting := by decide

/-- The engine of 08_the_record_output_engine.md, Worked example: a two-buffer chain with a flush, IDLE. -/
def chainStart : Device :=
  { withParameters tracked 0x10000100 0 0 0 0 0 0 0 with
    engine := { Engine.reset with
      state := .idle, flushOnLost := true, window0 := ⟨true, 0x10000000, 24, 0x80000000⟩ } }

/-- A record with a sequence number. -/
def recordOf (seq : Half) : Record :=
  ⟨seq, .event, 0, 0, ⟨0, 0, 0⟩, ⟨0, 0, 0⟩, 0, ⟨false, false, false, false, false, false⟩, .tracking, 0⟩

/-- Records joining the FIFO. -/
def producing (d : Device) (seqs : List Half) : Device :=
  { d with engine := (seqs.map recordOf).foldl Engine.join d.engine }

/-- Descriptors D1 and D2 as the bus answers them, lowest address first, little-endian. -/
def d1 : BitVec 128 := 0x10000200#32 ++ 0x10000110#32 ++ 0x00000004#32 ++ 0x10001000#32
def d2 : BitVec 128 := 0x10000208#32 ++ 0#32 ++ 0x00000008#32 ++ 0x10002000#32

theorem test_start_fetches_descriptor :
    (after .roeStart chainStart).engine.access = some (.descriptorRead 0x10000100 0x80000100 false) := by decide

/-- Events 1 to 10: D1 fills. -/
def chainFirst : Device :=
  afterAll [.recordWriteBegin, .recordWriteEnd true, .recordWriteBegin, .recordWriteEnd true, .recordWriteBegin, .recordWriteEnd true,
            .recordWriteBegin, .recordWriteEnd true]
    (producing (after (.descriptorReadEnd (some d1)) (after .roeStart chainStart)) [500, 501, 502, 503, 504])

theorem test_full_buffer_closes_complete :
    chainFirst.engine.access =
      some (.writeback .followChain 0x10000100 0x10000200 0x80000200 [4, 0, 1, 0, 0xF7, 1, 0, 0]) ∧
    chainFirst.engine.fifo = [recordOf 504] ∧ chainFirst.engine.written = 4 := by decide

/-- Events 11 to 18: D2 takes two records, and a flush of one more closes it. -/
def chainFlushed : Device :=
  afterAll [.recordWriteBegin, .recordWriteEnd true]
    (Device.flush (producing
      (afterAll [.recordWriteBegin, .recordWriteEnd true, .recordWriteBegin, .recordWriteEnd true]
        (producing (afterAll [.writebackEnd true, .descriptorReadEnd (some d2)] chainFirst) [505])) [506]))

theorem test_flush_closes_partial :
    chainFlushed.engine.access =
      some (.writeback .followChain 0x10000110 0x10000208 0x80000208 [3, 0, 2, 0, 0xFA, 1, 0, 0]) := by decide

theorem test_chain_end_starves :
    let d := after (.writebackEnd true) chainFlushed
    d.engine.state = .starved ∧ d.engine.lastDescriptor = 0x10000110 ∧ d.engine.produced = 7 ∧ d.engine.written = 7 ∧
    d.engine.flush = none ∧ d.notices.flags = 0x600 := by decide

/-- Events 21 and 22: a re-read of 0 leaves the engine STARVED, a re-read of D3's address fetches it. -/
theorem test_resume_rereads :
    let starved := after (.writebackEnd true) chainFlushed
    (after .roeResume starved).engine.access = some (.reread 0x10000118 0x80000118 false) ∧
    (afterAll [.roeResume, .rereadEnd (some 0)] starved).engine.state = .starved ∧
    (afterAll [.roeResume, .rereadEnd (some 0x10000120)] starved).engine.access =
      some (.descriptorRead 0x10000120 0x80000120 false) := by decide

/-! ## Witnesses: what every step keeps

Each names a state that meets the hypotheses of the statement it is named for, and a step that answers from it. -/

/-- A blind take on links that carry frames, with records and maps. -/
def busy : Device :=
  { blindTaking with
    ports := ⟨{ open_ with control := [.pass [1], .release .handedOff, .pass []], inFrame := some [.data 0x10] },
              { open_ with control := [.take ⟨1, 2, 3⟩], training := 7 },
              { open_ with state := .refusing, answers := [.nak] },
              { open_ with slot := some (9, ⟨1, 2, 3⟩) }⟩
    xfu := { ready.xfu with
      ingest := ⟨[entryOf 1, entryOf 2], [], [], []⟩, queryQueue := [⟨2, .query, ⟨0, 0, 0⟩⟩, ⟨3, .query, ⟨0, 0, 0⟩⟩] }
    smu := { ready.smu with cells := [(0, .blocked), (262143, .clear)], running := some ⟨.clear none, 5⟩ }
    engine :=
      { Engine.reset with
        state := .running, bufferOpen := true, fifo := [recordOf 7, recordOf 8], produced := 1, written := 0xFFFFFFFF
        current := some ⟨0x100, 0x1000, 4, 0, 0x200, 1, 6⟩, flush := some 2, held := some .disable
        access := some (.recordWrite 0x1020 0x1020 ((recordOf 7).bytes false)) }
    notices := ⟨0x4, 0x3FFF, true⟩ }

/-- The step taken from `busy` answers. -/
theorem witness_step : ∃ t, step ⟨busy, [.recordWriteEnd true]⟩ = .next t := ⟨_, rfl⟩

theorem witness_RolesKept : busy.RolesAgree := ⟨by decide, by decide, by decide, by decide⟩

theorem witness_TrackFieldsFollowState : busy.RolesAgree ∧ busy.track.FollowsState :=
  ⟨witness_RolesKept, by decide, by decide, by decide, by decide, by decide, by decide, by decide, by decide, by decide, by decide,
   by decide, by decide⟩

theorem witness_RecordsConserved : busy.engine.Conserves ∧ busy.engine.FifoBounded := by
  constructor
  · show busy.engine.produced = _
    decide
  · show busy.engine.fifo.length ≤ 16
    decide

theorem witness_EngineOrderKept : busy.engine.Ordered where
  buffer := by decide
  writing := fun _ _ _ _ => by decide
  closing := fun _ _ _ _ _ h => absurd h (by simp [busy])
  rereading := fun _ _ _ h => absurd h (by simp [busy])
  flushing := fun n h => by
    obtain rfl : 2 = n := by simpa [busy] using h
    decide
  disabled := by decide
  held := by decide

theorem witness_LinksKept : ∀ p, busy.LinkAgrees p ∧ (busy.ports.get p).Framing := by
  have collected : ∀ p, ∀ chars ∈ (busy.ports.get p).inFrame,
      (busy.ports.get p).state = .accepting ∧ (dataBytes chars).length < 29 := by decide
  intro p
  have idle : ∀ p, (busy.ports.get p).sending = .idle := by decide
  refine ⟨⟨?_, ?_, ?_, ?_, ?_, ?_, ?_⟩, ?_, fun chars h => collected p chars h, fun f n h => by simp [idle p] at h⟩ <;>
    revert p <;> decide

/-- The longest partial frame, of twenty-eight data characters and an unassigned control character, is kept; one more ends it. -/
theorem witness_LinksKept_collecting :
    let partialFrame : List LineChar := .control 0 :: List.replicate 28 (.data 1)
    let l : LinkPort := { open_ with inFrame := some partialFrame }
    l.Framing ∧ 29 ≤ (dataBytes (partialFrame ++ [.data 1])).length := by
  refine ⟨⟨by decide, fun chars h => ?_, fun f n h => absurd h (by simp [open_, LinkPort.reset])⟩, by decide⟩
  obtain rfl : _ = chars := Option.some.inj h
  decide

/-- A frame with all its characters on the line is kept too. -/
theorem witness_LinksKept_sending : (sendingPort 6 [.ack]).Framing := by
  refine ⟨by decide, fun chars h => absurd h (by simp [sendingPort, open_, LinkPort.reset]), fun f n h => ?_⟩
  obtain ⟨rfl, rfl⟩ : ⟨.idreq, 5, false⟩ = f ∧ 6 = n := by simpa [sendingPort] using h
  decide

theorem witness_MapsKept : busy.smu.Kept where
  wellFormed := by decide
  inside := by decide
  sweep := fun _ h => absurd h (by simp [busy, ready, Smu.resetWith])
  idle := by decide
  running := fun c h => by
    obtain rfl : ⟨.clear none, 5⟩ = c := by simpa [busy] using h
    exact ⟨trivial, by decide⟩

/-- A sweep at its last cell is kept too. -/
theorem witness_MapsKept_sweep : ({ ready.smu with sweep := some 262143 } : Smu).Kept where
  wellFormed := by decide
  inside := by decide
  sweep := fun a h => by
    obtain rfl : 262143 = a := by simpa using h
    decide
  idle := by decide
  running := fun _ h => absurd h (by simp [ready, Smu.resetWith])

theorem witness_NoticeConditionsShown : busy.ConditionsShown := by
  show busy.conditions &&& ~~~busy.notices.flags = 0
  decide

/-- A result on its way at both its limits, beside outlier_run at its own. -/
theorem witness_RangesKept :
    { busy with track := { busy.track with outlierRun := 15, pathResult := ⟨some 64, 63, true⟩ }
                smu := { busy.smu with scans := [⟨0, 0, 0, 0, 0, some ⟨none, 64, true⟩⟩] } : Device }.RangesHold where
  track := by
    refine ⟨?_, by decide, by decide, fun k h => ?_, by decide⟩
    · simp [inRange32, busy, blindTaking, taking, tracked, Track.reset]
    · obtain rfl : 64 = k := by simpa using h
      decide
  params := by constructor <;> decide
  xfu := ⟨by decide, by decide, by decide⟩
  scans := fun s h r hr => by
    obtain rfl : s = ⟨0, 0, 0, 0, 0, some ⟨none, 64, true⟩⟩ := by simpa using h
    obtain rfl : ⟨none, 64, true⟩ = r := by simpa using hr
    exact ⟨fun k h => by simp at h, by decide⟩

theorem witness_BearingsKept :
    ({ tracked with smu := { ready.smu with lookups := [⟨1, 38, true, 0, 0, 5, none, false⟩] } } : Device).BearingsAgree :=
  ⟨by decide, by decide⟩

/-! ## Witnesses: shared operations -/

/-- A tie: 5 / 2 is 3, and −5 / 2 is −3. -/
theorem witness_ArithmeticRounds :
    2 * (roundDiv 5 2 * 2 - 5).natAbs = 2 ∧ roundDiv 5 2 = 3 ∧ 2 * (roundDiv (-5) 2 * 2 - -5).natAbs = 2 ∧ roundDiv (-5) 2 = -3 := by
  decide

/-- An engine with room for one record, and one with none. -/
theorem witness_ChangeOfStateRecorded :
    let room : Engine := { Engine.reset with state := .starved, fifo := List.replicate 15 (recordOf 0) }
    let full : Engine := { Engine.reset with state := .starved, fifo := List.replicate 16 (recordOf 0) }
    (room.state ≠ .disabled ∧ room.fifo.length < 16) ∧ 16 ≤ full.fifo.length ∧ Engine.reset.state = .disabled := by decide

/-- A GOOD station is chosen, a FAIR one without it, and neither a POOR nor a BARRED one. -/
theorem witness_ChoiceTakesBestStation :
    tracked.choose = some 1 ∧
    { tracked with stations := tracked.stations.set 1 waiting }.choose = some 2 ∧
    { tracked with stations := (tracked.stations.set 1 (bearingOf 900 .suspect waiting)).set 2 waiting }.choose = none := by decide

/-- Each line of R38: an answer exactly BEARING_MAX_AGE (60,000 µs) old, and one a microsecond older. -/
theorem test_grades :
    let graded := fun (s : Station) => { tracked with tb := 60900, stations := tracked.stations.set 1 s }.grade 1
    graded (bearingOf 900 .clear waiting) = .good ∧ graded (bearingOf 899 .clear waiting) = .stale ∧
    graded (bearingOf 900 .unknown waiting) = .fair ∧ graded (bearingOf 900 .suspect waiting) = .poor ∧
    graded (bearingOf 900 .fixedBlocked waiting) = .barred ∧ graded waiting = .stale ∧
    graded { bearingOf 900 .clear waiting with holdOff := some 0 } = .held ∧
    graded { bearingOf 900 .clear waiting with quiet := true } = .ineligible := by decide

/-- A search alive by a station alone, one alive by search_pending alone, and one at its end. -/
theorem witness_SearchAndLossEntered :
    acquiring.stationState 1 = .searching ∧
    { searching with stations := .same waiting }.track.searchPending.get 3 = true ∧
    (∀ p, ready.stationState p ≠ .searching ∧ ready.track.searchPending.get p = false) := by decide

/-! ## Witnesses: the command register -/

/-- A ROE_START held behind a writeback. -/
def holding : Device :=
  { chainFirst with engine := { chainFirst.engine with held := some (.start 0x10000200) } }

theorem witness_CommandRegisterDispatches :
    ready.engine.startHeld = false ∧ holding.engine.startHeld = true ∧
    (0x42, Instr.roeResume) ∈ commandTable ∧ (∀ e ∈ commandTable, e.1 ≠ 0x43) ∧
    (0xFFFFFF42 : Word).extractLsb' 0 8 = (0x42 : Byte) := by decide

/-- A code that is none of the eighteen, written while a START is held, is BUSY and not VALUE (R188, check 1). -/
theorem test_unknown_code_while_start_held :
    (after (.registerWrite 0x004 0x43) holding).sbi.status = ⟨0x43, .refused, .busy⟩ ∧
    (after (.registerWrite 0x004 0x43) ready).sbi.status = ⟨0x43, .refused, .value⟩ := by decide

/-- ARM of port 3 alone in IDLE and in LOST; ARM with no port, and in TRACKING. -/
theorem witness_ArmStartsAcquire :
    let sent := fun (d : Device) p => d.sbi.parameters.p0.getLsbD p && d.eligible (Fin.ofNat 4 p)
    let one := withParameters ready 8 0 0 0 0 0 0 0
    one.engine.startHeld = false ∧ one.track.state = .idle ∧ sent one 3 = true ∧ sent one 0 = false ∧
    { one with track := { one.track with state := .lost } }.track.state = .lost ∧
    (∀ p : Port, ready.sbi.parameters.p0.getLsbD p.val = false) ∧ tracked.track.state = .tracking := by decide

theorem test_arm_sends_search :
    (after .arm (withParameters ready 8 0 0 0 0 0 0 0)).stationState 3 = .searching ∧
    (after .arm ready).sbi.status = ⟨0x01, .refused, .state⟩ := by decide

theorem witness_CancelReturnsToIdle :
    busy.engine.startHeld = false ∧ busy.track.state ≠ .idle ∧ searching.track.state ≠ .idle ∧ ready.track.state = .idle := by decide

theorem test_cancel_releases :
    ((after .cancel searching).ports.get 2).control = [.release .cancelled] ∧
    (after .cancel taking).track.candidate = none := by decide

/-- Port 3 grades BARRED and carries a query point; ports 0 and 4 are refused. -/
theorem witness_HandoffToStartsTake :
    (withParameters tracked 3 0 0 0 0 0 0 0).sbi.parameters.p0.toNat = (3 : Port).val ∧
    tracked.engine.startHeld = false ∧ tracked.track.state = .tracking ∧ tracked.grade 3 ∈ [Grade.good, .fair, .poor, .barred] ∧
    (tracked.stations.get 3).query = some ⟨38, ⟨10, 20, 30⟩, 900⟩ ∧
    3 < (withParameters tracked 4 0 0 0 0 0 0 0).sbi.parameters.p0.toNat ∧
    (withParameters tracked 0 0 0 0 0 0 0 0).sbi.parameters.p0.toNat = (0 : Port).val ∧
    tracked.grade 0 ∈ [Grade.ineligible, .held, .stale] ∧ coasting.track.state ≠ .tracking := by decide

theorem test_handoff_to_takes_barred_station :
    (after .handoffTo (withParameters tracked 3 0 0 0 0 0 0 0)).track.candidate = some 3 ∧
    (after .handoffTo (withParameters tracked 0 0 0 0 0 0 0 0)).sbi.status = ⟨0x03, .refused, .state⟩ := by decide

/-- A load of station 3 that may join an acquire search, a load of the owner, and port 4. -/
theorem witness_TransformsLoadedAndUnloaded :
    let joining := withParameters
      { acquiring with xfu := { acquiring.xfu with records := acquiring.xfu.records.set 3 ⟨false, .zero⟩ } } 3 0 0 0 0 0 0 0
    joining.engine.startHeld = false ∧ joining.sbi.parameters.p0.toNat = (3 : Port).val ∧
    joining.stationState 3 ∈ [StationState.absent, .unconfigured, .standby] ∧ joining.track.owner ≠ some 3 ∧
    joining.eligible 3 = false ∧
    tracked.stationState 0 ∈ [StationState.owner, .taking, .searching] ∧
    3 < (withParameters ready 4 0 0 0 0 0 0 0).sbi.parameters.p0.toNat := by decide

theorem test_load_joins_acquire :
    let joining := withParameters
      { acquiring with
        xfu := { acquiring.xfu with records := acquiring.xfu.records.set 3 ⟨false, .zero⟩ }
        stations := acquiring.stations.set 3 { waiting with state := .unconfigured } } 3 0 0 0 0 0 0 0
    (after .loadTransform joining).stationState 3 = .searching ∧ (after .loadTransform joining).hasTransform 3 = true := by decide

/-- The last search_pending port leaves by UNLOAD_TRANSFORM while stations still search. -/
theorem test_unload_leaves_search_pending :
    let d := after .unloadTransform (withParameters searching 3 0 0 0 0 0 0 0)
    d.track.searchPending.get 3 = false ∧ d.stationState 3 = .unconfigured ∧ d.track.state = .search := by decide

/-- Settings of port 3 at both values, one past each limit, and a limit of entries at both ends. -/
theorem witness_SettingsTaken :
    ready.engine.startHeld = false ∧
    (withParameters ready 3 1 0 0 0 0 0 0).sbi.parameters.p0.toNat = (3 : Port).val ∧
    (withParameters ready 3 1 0 0 0 0 0 0).sbi.parameters.p1 = 1 ∧ (withParameters ready 3 0 0 0 0 0 0 0).sbi.parameters.p1 = 0 ∧
    3 < (withParameters ready 4 1 0 0 0 0 0 0).sbi.parameters.p0.toNat ∧
    1 < (withParameters ready 3 2 0 0 0 0 0 0).sbi.parameters.p1.toNat ∧
    (withParameters ready 3 3 0 0 0 0 0 0).sbi.parameters.p1.toNat = 3 ∧
    3 < (withParameters ready 3 4 0 0 0 0 0 0).sbi.parameters.p1.toNat := by decide

theorem test_quiet_waits_for_send :
    ((after .setQuiet (withParameters linkTaking 2 1 0 0 0 0 0 0)).stations.get 2).quietPending = some true ∧
    ((after .setQuiet (withParameters ready 2 1 0 0 0 0 0 0)).stations.get 2).quiet = true := by decide

theorem test_outstanding_and_learning :
    (after .setOutstanding (withParameters paired 0 1 0 0 0 0 0 0)).xfu.ingest.get 0 = [entryOf 3] ∧
    ((after .setOutstanding (withParameters paired 0 1 0 0 0 0 0 0)).stations.get 0).counters.superseded = 2 ∧
    ((after .setLearning (withParameters ready 1 0 0 0 0 0 0 0)).stations.get 1).learning = false := by decide

/-- A frame of 24 bytes on an open port with one host frame waiting; 25 bytes, port 4, a port in DOWN, a full queue. -/
theorem witness_PassSent :
    let d := withParameters { ready with ports := ready.ports.set 3 { open_ with control := [.pass []] } } 3 24 0 0 0 0 0 0
    d.engine.startHeld = false ∧ d.sbi.parameters.p0.toNat = (3 : Port).val ∧ d.sbi.parameters.p1.toNat ≤ 24 ∧
    (d.ports.get 3).state ≠ .down ∧ (d.ports.get 3).passes < 2 ∧
    24 < (withParameters ready 3 25 0 0 0 0 0 0).sbi.parameters.p1.toNat ∧
    3 < (withParameters ready 4 24 0 0 0 0 0 0).sbi.parameters.p0.toNat ∧
    (base.ports.get 3).state = .down ∧ 2 ≤ (busy.ports.get 0).passes := by decide

theorem test_pass_send_bytes :
    ((after .passSend (withParameters ready 3 5 0x04030201 0xFF05 0 0 0 0)).ports.get 3).control = [.pass [1, 2, 3, 4, 5]] := by
  decide

/-! ## Witnesses: the sight maps -/

/-- Parameters at the upper ends of their ranges: a fill of map 3 to its last row, a copy of a whole map, a line and a run of 512 cells,
a clear of all four maps. -/
theorem witness_MapCommandsJudged :
    ready.engine.startHeld = false ∧ ready.smu.running = none ∧ ready.smu.sweep = none ∧
    (let w := (withParameters ready 3 511 127 512 1 5 0 0).sbi.parameters
     w.p0.toNat = (3 : Port).val ∧ w.p5.toNat = CellState.fixedBlocked.code ∧ w.p1.toNat < 512 ∧ w.p2.toNat < 128 ∧
     w.p3.toNat ≤ 512 ∧ 1 ≤ w.p4.toNat ∧ w.p2.toNat + w.p4.toNat ≤ 128) ∧
    (let w := (withParameters ready 3 511 0 0 511 0 0x00800200 0x00010001).sbi.parameters
     w.p7.toNat = true.toNat + 65536 * true.toNat ∧ w.p6.toNat % 65536 ≤ 512 ∧ w.p6.toNat / 65536 ≤ 128 ∧
     w.p5.toNat + w.p6.toNat / 65536 ≤ 128 ∧ w.p4.toNat < 512) ∧
    (let w := (withParameters ready 0 511 127 512 8 0xFFFFFFF8 5 0).sbi.parameters
     w.p4.toInt ≤ 8 ∧ -8 ≤ w.p5.toInt ∧ ¬ (w.p4 = 0 ∧ w.p5 = 0) ∧ w.p6.toNat = CellState.fixedBlocked.code) ∧
    (let w := (withParameters ready 3 511 127 1 5 512 0 0).sbi.parameters
     w.p3.toNat = true.toNat ∧ w.p4.toNat = CellState.fixedBlocked.code ∧ w.p5.toNat ≤ 512) ∧
    (withParameters ready 4 0 0 0 0 0 0 0).sbi.parameters.p0.toNat = 4 := by decide

/-- One past each range is refused with RANGE, a bad code with VALUE, and anything during the sweep with BUSY. -/
theorem witness_MapCommandsJudged_refusals :
    base.smu.sweep.isSome ∧
    (after .mapFill (withParameters ready 3 511 127 512 2 5 0 0)).sbi.status = ⟨0x20, .refused, .range⟩ ∧
    (after .mapFill (withParameters ready 3 511 127 512 1 6 0 0)).sbi.status = ⟨0x20, .refused, .value⟩ ∧
    (after .mapCopy (withParameters ready 3 511 0 0 511 0 0x00800201 0)).sbi.status = ⟨0x21, .refused, .range⟩ ∧
    (after .mapCopy (withParameters ready 3 511 0 0 511 0 0x00800200 0x00020000)).sbi.status = ⟨0x21, .refused, .value⟩ ∧
    (after .mapLine (withParameters ready 0 0 0 1 9 0 0 0)).sbi.status = ⟨0x22, .refused, .range⟩ ∧
    (after .mapRun (withParameters ready 0 0 0 2 0 1 0 0)).sbi.status = ⟨0x23, .refused, .value⟩ ∧
    (after .mapClear (withParameters ready 5 0 0 0 0 0 0 0)).sbi.status = ⟨0x24, .refused, .range⟩ ∧
    (after .mapClear base).sbi.status = ⟨0x24, .refused, .busy⟩ := by decide

/-- A part with a map command running. -/
def commanding (c : MapCommand) (visited : Nat) : Device :=
  { ready with smu := { ready.smu with running := some ⟨c, visited⟩ } }

/-- A fill at its first and its last cell, a copy, a line across the seam, a clear at the last cell of all, and a run. -/
theorem witness_MapCellStepsAndEnds :
    (after .mapCellStep (commanding (.fill 3 511 127 2 1 .clear) 0)).smu.cells = [(262143, .clear)] ∧
    (after .mapCellStep (commanding (.fill 3 511 127 2 1 .clear) 1)).smu.cells = [(261632, .clear)] ∧
    (let d := commanding (.copy 0 0 0 1 5 2 1 1 false false) 0
     (after .mapCellStep { d with smu := { d.smu with cells := [(0, .blocked)] } }).smu.cells = [(0, .blocked), (66565, .blocked)]) ∧
    (after .mapCellStep (commanding (.line 0 0 0 2 (-1) 1 .suspect) 1)).smu.cells = [(1023, .suspect)] ∧
    (let d := commanding (.clear (some 3)) 65535
     (after .mapCellStep { d with smu := { d.smu with cells := [(262143, .clear)] } }).smu.running = none) ∧
    (after .mapCellStep (commanding (.clear none) 262143)).smu.status.result = .done ∧
    (commanding (.run 0 0 0 true .unknown 512) 1).smu.running = some ⟨.run 0 0 0 true .unknown 512, 1⟩ ∧
    ready.smu.running = none ∧ ready.engine.startHeld = false := by decide

/-- A copy of a row onto itself shifted by one, columns upward, carries its first cell on; columns downward it copies straight (R98). -/
theorem test_copy_overlap :
    let copied := fun down visited cells =>
      let d := commanding (.copy 0 0 0 0 1 0 2 1 down false) visited
      (after .mapCellStep { d with smu := { d.smu with cells := cells } }).smu.cells
    copied false 1 [(0, .blocked), (1, .blocked)] = [(0, .blocked), (1, .blocked), (2, .blocked)] ∧
    copied true 0 [(0, .blocked), (1, .suspect)] = [(0, .blocked), (1, .suspect), (2, .suspect)] := by decide

/-- A line leaves the map and ends there; a run to the left of column 0 goes on at column 511 and stops at another state. -/
theorem test_line_and_run_end :
    (after .mapCellStep (commanding (.line 0 5 127 9 0 1 .clear) 0)).smu.status.result = .done ∧
    (let d := commanding (.run 0 0 0 true .unknown 512) 1
     let stopped := after .mapCellStep { d with smu := { d.smu with cells := [(511, .clear)] } }
     stopped.smu.status.runStop = .different ∧ stopped.smu.status.runStopColumn = 511 ∧ stopped.smu.running = none) := by decide

theorem witness_MapFillWritesRectangle :
    let d := commanding (.fill 1 511 126 2 2 .fixedClear) 0
    d.smu.Kept ∧ d.smu.running = some ⟨.fill 1 511 126 2 2 .fixedClear, 0⟩ ∧ d.smu.latches.get 1 = none := by
  refine ⟨⟨by decide, by decide, fun _ h => absurd h (by simp [commanding, ready, Smu.resetWith]), by decide, fun c h => ?_⟩,
    by decide, by decide⟩
  obtain rfl : ⟨.fill 1 511 126 2 2 .fixedClear, 0⟩ = c := by simpa [commanding] using h
  exact ⟨by simp [MapCommand.InRange], by decide⟩

theorem test_fill_wraps_columns :
    (afterAll (List.replicate 4 .mapCellStep) (commanding (.fill 1 511 126 2 2 .fixedClear) 0)).smu.cells =
      [(130048, .fixedClear), (130559, .fixedClear), (130560, .fixedClear), (131071, .fixedClear)] := by decide

theorem witness_SweepClearsEveryCell : base.smu.Kept ∧ base.smu.sweep = some 0 ∧ ready.smu.sweep = none := by
  refine ⟨⟨by decide, by decide, fun a h => ?_, by decide, fun _ h => absurd h (by simp [base, State.reset,
    Device.hardwareResetWith, Smu.resetWith])⟩, by decide, by decide⟩
  obtain rfl : 0 = a := by simpa [base, State.reset, Device.hardwareResetWith, Smu.resetWith] using h
  decide

theorem test_sweep_clears_last_cell :
    let d := { ready with smu := { ready.smu with sweep := some 262143, cells := [(262143, .blocked)] } }
    (after .clearingSweepStep d).smu.cells = [] ∧ (after .clearingSweepStep d).smu.sweep = none := by decide

/-- A break on the last row of map 2, behind a request of another source. -/
def learning : Device :=
  { ready with smu := { ready.smu with
    cells := [(196607, .suspect)], learnQueue := [⟨.track, 1, 0, 0, .failedTake⟩, ⟨.link 2, 2, 0xFFFF, 8191, .lost⟩] } }

theorem witness_LearningChangesCell :
    learning.smu.learnQueue = [⟨.track, 1, 0, 0, .failedTake⟩] ++ ⟨.link 2, 2, 0xFFFF, 8191, .lost⟩ :: [] ∧
    (∀ o ∈ [(⟨.track, 1, 0, 0, .failedTake⟩ : LearnRequest)], o.source ≠ .link 2) ∧
    (∀ r ∈ learning.smu.learnQueue, r.source ≠ .link 0) := by decide

theorem test_break_learning_blocks :
    readCell (after (.learningRequest (.link 2)) learning).smu.cells 196607 = .blocked ∧
    (after (.learningRequest (.link 2)) { learning with smu := { learning.smu with running := some ⟨.clear (some 2), 0⟩ } }).smu.cells =
      [(196607, .suspect)] := by decide

/-- A seen request one row above the map changes nothing. -/
theorem test_learning_off_map :
    (after (.learningRequest (.link 2)) { learning with smu := { learning.smu with
      learnQueue := [⟨.link 2, 2, 0xFFFF, 8192, .seen⟩] } }).smu.cells = [(196607, .suspect)] := by decide

theorem witness_CellsChangeOnlyByTheirCommands :
    readCell { ready.smu with cells := [(0, .fixedBlocked)] }.cells 0 = .fixedBlocked ∧
    (∃ d', exec .hardwareReset ⟨ready, []⟩ = .next ⟨d', []⟩) ∧ cellsWellFormed [(0, CellState.fixedBlocked)] = true :=
  ⟨by decide, ⟨_, rfl⟩, by decide⟩

/-- A lookup of station 1 behind one of station 0, unread and read, and a forgotten one. -/
def looking (result : Option CellState) (forgotten : Bool) : Device :=
  { ready with smu := { ready.smu with
    cells := [(131071, .blocked)]
    lookups := [⟨0, 1, true, 0, 0, 5, none, false⟩, ⟨1, 7, true, 0xFFFF, 8191, 6, result, forgotten⟩] } }

theorem witness_LookupsStoreCellState :
    (looking none false).smu.lookups = [⟨0, 1, true, 0, 0, 5, none, false⟩] ++ ⟨1, 7, true, 0xFFFF, 8191, 6, none, false⟩ :: [] ∧
    (∀ o ∈ [(⟨0, 1, true, 0, 0, 5, none, false⟩ : Lookup)], o.station ≠ 1) ∧
    (∀ l ∈ (looking none false).smu.lookups, l.station = 2 → l.result ≠ none) := by decide

theorem test_lookup_reads_and_forgets :
    ((after (.pointLookup 1) (looking none false)).smu.lookups.map fun l => l.result) = [none, some .blocked] ∧
    ((after (.lookupResult 1) (looking (some .blocked) false)).stations.get 1).answer = some ⟨7, true, 0xFFFF, 8191, .blocked, 6⟩ ∧
    ((after (.lookupResult 1) (looking (some .blocked) true)).stations.get 1).answer = none := by decide

/-- Scans from the bottom row, from the top row, from off the map, and during the sweep. -/
theorem witness_ScanFindsFirstObstacle :
    (let s : Scan := ⟨0, 0, -8192, 0, 8191, none⟩
     s.result = none ∧ ((s.startEl.toInt + 8192) / 128 = 0) ∧ ((s.endEl.toInt + 8192) / 128 = 127) ∧ ready.smu.sweep = none) ∧
    (127 < ((8192 : Half).toInt + 8192) / 128) ∧ (((-8193 : Half).toInt + 8192) / 128 < 0) ∧ base.smu.sweep.isSome = true ∧
    (∀ s ∈ ready.smu.scans, s.result ≠ none) := by decide

/-- No obstacle, and suspects at the limit. -/
theorem witness_PathResultsAct :
    let d := { tracked with smu := { ready.smu with scans := [⟨0, 0, 0, 0, 0, some ⟨none, 2, false⟩⟩] } }
    d.smu.scans = ⟨0, 0, 0, 0, 0, some ⟨none, 2, false⟩⟩ :: [] ∧ d.params.suspectLimit ≤ 2 ∧
    (after .pathScanResult d).track.state = .handoff ∧ (∀ s ∈ ready.smu.scans.head?, s.result = none) := by decide

/-! ## Witnesses: the register window -/

theorem witness_RegistersStore :
    (0x240, fun w : Word => BitVec.ofNat 32 (max 100000 (min w.toNat 30000000))) ∈ storedRegisters ∧
    (0x7C4, (id : Word → Word)) ∈ storedRegisters :=
  ⟨by simp [storedRegisters], by simp [storedRegisters]⟩

theorem test_parameter_clamps :
    (after (.registerWrite 0x240 0xFFFFFFFF) ready).readWord 0x240 = 30000000 ∧
    (after (.registerWrite 0x7C0 0x00001F01) ready).readWord 0x7C0 = 0x00001F01 ∧
    (after (.registerWrite 0x7C0 0x00000000) ready).readWord 0x7C0 = 0x00000C00 := by decide

/-- A read-only word, and the half of a word that is not aligned. -/
theorem witness_RegisterWritesAct :
    (0x008 : BitVec 12) ∉ storedRegisters.map Prod.fst ∧ (0x008 : BitVec 12) ∉ actingRegisters ∧
    (0x202 : BitVec 12) ∉ storedRegisters.map Prod.fst ∧ (0x202 : BitVec 12) ∉ actingRegisters := by decide

theorem test_register_write_actions :
    after (.registerWrite 0x008 0xFFFFFFFF) ready = ready ∧
    (after (.registerWrite 0x00C 3) tracked).sbi.lastReset = .softKeep ∧
    (after (.registerWrite 0x780 0x101) ready).engine.state = .idle ∧
    (after (.registerWrite 0x780 0x101) ready).engine.bigEndian = true ∧
    (after (.registerWrite 0x43C 0) { ready with stations := .same { waiting with mailbox := ⟨[1], true⟩ } }).stations.p1.mailbox.full
      = false := by decide

theorem test_sub_word_write :
    (after (.subWordWrite 0x200 7) ready).sbi.busWidth = true ∧ (after (.subWordWrite 0x200 7) ready).params = ready.params ∧
    (after .busWidthClear (after (.subWordWrite 0x200 7) ready)).sbi.busWidth = false := by decide

/-- Station 2 alone is present; then none. -/
theorem witness_ReadsWithEffects :
    let d := { ready with stations := ready.stations.set 2 { waiting with identity := some ⟨0x1234, 0, 0, 0, 0⟩ } }
    let present : Device → Port → Bool := fun d p =>
      decide (d.stationState p ≠ .absent) && (d.stations.get p).identity.isSome && decide (d.roll.cursor ≤ p.val)
    present d 2 = true ∧ (∀ j : Port, j < 2 → present d j = false) ∧ (d.stations.get 2).identity = some ⟨0x1234, 0, 0, 0, 0⟩ ∧
    (∀ p, present ready p = false) ∧
    (after .rollRead d).sbi.readData = 0x12340002 ∧ (after .rollRead ready).sbi.readData = 0xFF := by decide

theorem test_snapshot_and_peek :
    (after .trackSnapshot taking).sbi.readData = 0x103 ∧
    (after .mapPeek { ready with smu := { ready.smu with cells := [(262143, .fixedBlocked)], peek := ⟨3, 511, 127⟩ } }).sbi.readData = 5
      := by decide

/-- A clear of every flag leaves the flag of a port in REFUSING. -/
theorem test_notice_clear_keeps_condition :
    (after (.noticeFlagClear 0xFFFFFFFF) { busy with notices := ⟨0x3FFF, 0, true⟩ }).notices.flags = 0x4 := by decide

/-- The lowest flag shown is the source; with none shown the line is off. -/
theorem witness_NoticeLineFollows :
    let n : Notices := ⟨0x2080, 0x80, true⟩
    let shows := fun i => n.flags.getLsbD i = true ∧ n.mask.getLsbD i = false
    shows 13 ∧ (∀ m, m < 13 → ¬ shows m) ∧ n.sourceWord = 14 ∧ n.line = true ∧
    (∀ i, i < 14 → ¬ (Notices.reset.flags.getLsbD i = true ∧ Notices.reset.mask.getLsbD i = false)) := by decide

theorem test_notice_words :
    (after (.noticeMaskWrite 0xFFFFC001) ready).notices.mask = 1 ∧ (after (.noticeControlWrite 3) ready).notices.enabled = true ∧
    ((after (.portFlagClear 1 0x3E) { ready with ports := .same { open_ with
      flags := ⟨true, true, true, true, true, true⟩ } }).ports.get 1).flags = ⟨true, false, false, false, false, false⟩ := by decide

/-- A pair begun at the query queue's neighbour, turned off and left on. -/
theorem witness_PairModeWritten :
    let d := { ready with xfu := { ready.xfu with pairMode := true, pairFlag := true, pointer := .port 3 } }
    d.xfu.pairMode = true ∧ d.xfu.pairFlag = true ∧ (after (.pairModeWrite 0) d).xfu.pointer = .queryQueue ∧
    ¬ (ready.xfu.pairMode = true ∧ (0 : Word) = 0 ∧ ready.xfu.pairFlag = true) ∧ (after (.pairModeWrite 2) ready).xfu.pairMode = true :=
  by decide

/-! ## Witnesses: deadlines -/

/-- A deadline at now has not expired; one a microsecond before has, across the wrap of the time base too. -/
theorem witness_DeadlinesWaitAndHoldOffEnds :
    ¬ 0 < ((1000 : Word) - 1000).toInt ∧ 0 < ((1000 : Word) - 999).toInt ∧ 0 < ((0 : Word) - 0xFFFFFFFF).toInt ∧
    ((1000 : Word) - 0x800003E8).toInt ≤ 0 ∧
    (∀ t, (ready.stations.get 0).holdOff = some t → (ready.tb - t).toInt ≤ 0) := by
  refine ⟨by decide, by decide, by decide, by decide, fun t h => absurd h (by simp [ready, waiting, Station.reset, PerPort.same, PerPort.get])⟩

theorem test_hold_off_ends :
    let held : Word → Device := fun t => { ready with stations := .same { waiting with holdOff := some t } }
    ((after (.holdOffExpiry 1) (held 999)).stations.get 1).holdOff = none ∧
    ((after (.holdOffExpiry 1) (held 1000)).stations.get 1).holdOff = some 1000 := by decide

theorem witness_QueryAndOutputTicks :
    tracked.track.deadlines.query = some 999 ∧ 0 < (tracked.tb - 999).toInt ∧ coasting.track.deadlines.output = some 999 ∧
    coasting.track.blind = true ∧ coasting.track.state = .coast ∧ blindTaking.track.state = .handoff := by decide

/-- A query tick in COAST takes the GOOD station. -/
theorem test_coast_tick_takes :
    (after .queryDeadlineExpiry coasting).track.candidate = some 1 ∧ (after .queryDeadlineExpiry coasting).track.state = .handoff := by
  decide

theorem witness_TrackDeadlinesEnd :
    taking.track.deadlines.handoff = some 999 ∧ taking.track.state = .handoff ∧ taking.track.candidate = some 1 ∧
    coasting.track.deadlines.coast = some 999 ∧ coasting.track.state = .coast ∧ blindTaking.track.deadlines.coast = some 999 ∧
    searching.track.deadlines.search = some 999 ∧ searching.track.state = .search ∧ acquiring.track.state = .acquire ∧
    0 < (ready.tb - 999).toInt := by decide

theorem test_handoff_timeout :
    let d := after .handoffDeadlineExpiry taking
    d.track.state = .tracking ∧ d.track.failure = ⟨some .timeout, some 1, 1000⟩ ∧ d.track.latePort = some 1 ∧
    (d.ports.get 1).control = [.release .timeout] := by decide

theorem test_search_timeout_loses :
    (after .searchDeadlineExpiry searching).track.state = .lost ∧
    ((after .searchDeadlineExpiry acquiring).ports.get 2).control = [.release .searchEnd] := by decide

/-! ## Witnesses: the links -/

/-- A control queue with a RELEASE that waits and one with none; an idle sending half with each kind of frame to take; a send under way. -/
theorem witness_ControlQueueKeptAndSent :
    (∀ r, OutFrame.release r ∉ open_.control) ∧
    (busy.ports.get 0).control = [.pass [1]] ++ .release .handedOff :: [.pass []] ∧ (busy.ports.get 0).releases = 1 ∧
    (busy.ports.get 0).state ≠ .down ∧ (busy.ports.get 0).sending = .idle ∧ (base.ports.get 0).state = .down ∧
    (linkRefused.ports.get 2).sending = .sending ⟨.point 61 ⟨4, 5, 6⟩, 18, false⟩ 0 ∧ (∀ f n, open_.sending ≠ .sending f n) := by
  refine ⟨fun r => by simp [open_, LinkPort.reset], by decide, by decide, by decide, by decide, by decide, by decide,
    fun f n => by simp [open_, LinkPort.reset]⟩

/-- R145 by hand: kind 0x20, seq 5 and length 0 sum to 0x25, so the check byte is 0xDB; a NAK goes out between two characters of the
frame; the line carries IDLE with nothing to send, in DOWN too. -/
theorem test_line_characters :
    InFlight.chars ⟨.idreq, 5, false⟩ =
      [.control 0xA1, .data 0x20, .data 5, .data 0, .data 0xDB, .control 0xA2] ∧
    (sendingPort 3 [.nak, .ack]).sendCharacter = { sendingPort 3 [.ack] with line := .control 0xA4 } ∧
    (sendingPort 3 []).sendCharacter = { sendingPort 4 [] with line := .data 0 } ∧
    { open_ with line := .data 0 }.sendCharacter = open_ ∧ LinkPort.reset.sendCharacter = LinkPort.reset := by decide

/-- The EOF stays on the line until it has gone out: an answer made meanwhile waits on, and one that waited before it has gone ahead. -/
theorem test_eof_and_answers :
    (sendingPort 6 [.ack]).sendCharacter = sendingPort 6 [.ack] ∧
    ((sendingPort 6 [.ack]).eofGone 7).answers = [.ack] ∧ ((sendingPort 5 [.ack]).eofGone 7).answers = [] ∧
    ((sendingPort 5 [.ack]).eofGone 7).line = .control 0xA2 := by decide

/-- IDREQ goes first, then the control queue, then the POINT; the answers go ahead of the EOF. -/
theorem test_sending_order :
    let l := { open_ with idreqPending := true, control := [.pass [1]], slot := some (9, ⟨1, 2, 3⟩), seqCounter := 0xFF }
    let d := { ready with ports := .same l }
    ((after (.outboundFrameTake 0) d).ports.get 0).sending = .sending ⟨.idreq, 0xFF, false⟩ 0 ∧
    ((after (.outboundFrameTake 0) d).ports.get 0).seqCounter = 0 ∧
    ((after (.outboundFrameTake 2) busy).ports.get 2).sending = .idle ∧
    ((after (.eofSent 2) linkRefused).ports.get 2).answerDeadline = some 4001700 := by decide

/-- A port in DOWN, and an up port that carries a RELEASE, a PASS and a frame in flight. -/
theorem witness_SilenceTakesPortDown :
    let down := { ready with ports := .same { LinkPort.reset with silence := some 999, training := 7 } }
    let up := { busy with ports := busy.ports.map fun l => { l with silence := some 999 } }
    (down.ports.get 3).state = .down ∧ (down.ports.get 3).silence = some 999 ∧ 0 < (down.tb - 999).toInt ∧
    (up.ports.get 0).state ≠ .down ∧ (up.ports.get 0).silence = some 999 := by decide

theorem test_silence_of_owner :
    let up := { tracked with ports := busy.ports.map fun l => { l with silence := some 999 } }
    let d := after (.silenceDeadlineExpiry 0) up
    (d.ports.get 0).state = .down ∧ d.stationState 0 = .absent ∧ d.track.state = .coast ∧ d.track.owner = some 0 ∧
    (d.ports.get 0).flags.releaseLost = true ∧ (d.ports.get 0).flags.passLost = true := by decide

theorem witness_SendsEnd :
    (linkTaking.ports.get 2).state ≠ .down ∧ (linkTaking.ports.get 2).sending = .awaiting ⟨.take ⟨1, 2, 3⟩, 17, true⟩ ∧
    (linkTaking.ports.get 2).answerDeadline = some 4001260 ∧ 0 < ((4001261 : Word) - 4001260).toInt ∧
    (∀ f, (ready.ports.get 0).sending ≠ .awaiting f) :=
  ⟨by decide, by decide, by decide, by decide, fun f => by simp [ready, open_, LinkPort.reset, PerPort.same, PerPort.get]⟩

theorem test_answer_timeout_and_stray :
    (after (.answerDeadlineExpiry 2) { linkTaking with tb := 4001261 }).track.failure.reason = some .undelivered ∧
    (after (.answerDeadlineExpiry 2) { linkTaking with tb := 4001260 }).track.state = .handoff ∧
    ((after (.nak 0) ready).ports.get 0).counters.strayAnswers = 1 := by decide

/-- Training counts of 6 and 7, a frame under way with 28 data characters, and a port in REFUSING. -/
theorem witness_ReceivingHalfTakesCharacters :
    (base.ports.get 0).state = .down ∧ { LinkPort.reset with training := 6 }.training < 7 ∧
    (ready.ports.get 0).inFrame = none ∧ (ready.ports.get 0).state = .accepting ∧
    (busy.ports.get 0).inFrame = some [.data 0x10] ∧ (busy.ports.get 0).state = .accepting ∧ (busy.ports.get 2).state = .refusing ∧
    otherCharacter .parityError = true ∧ otherCharacter (.data 0xFF) = true ∧ otherCharacter (.control 0) = true := by decide

theorem test_eighth_idle_brings_link_up :
    let down : Device := { base with ports := .same { LinkPort.reset with training := 7 } }
    ((after (.idleCharacter 0) down).ports.get 0).state = .accepting ∧ (after (.idleCharacter 0) down).stationState 0 = .unconfigured ∧
    ((after (.idleCharacter 0) { base with ports := .same { LinkPort.reset with training := 6 } }).ports.get 0).training = 7 := by decide

/-- The 29th data character, and a BRK, in a frame. -/
theorem test_overlong_frame :
    let d := { ready with ports := .same { open_ with inFrame := some (List.replicate 28 (.data 0)) } }
    ((after (.dataCharacter 0 (.data 0)) d).ports.get 0).capture = ⟨.check, 29, some 0, 1000⟩ ∧
    ((after (.brk 0) d).ports.get 0).inFrame = none ∧ ((after (.brk 0) d).ports.get 0).state = .accepting := by decide

/-! ## Witnesses: frames -/

/-- Values at the ends of their ranges, and a payload of 24 bytes. -/
theorem witness_FramesRoundTrip :
    let low : BreakReport := ⟨0, 0, 0, 1, 0⟩
    let high : BreakReport := ⟨0xFFFF, 0xFFFF, 0xFFFF, 3, 0xFF⟩
    1 ≤ low.reason.toNat ∧ high.reason.toNat ≤ 3 ∧ (⟨0, 1, 0, 0⟩ : BearingReport).reach.toNat ≤ 1 ∧
    (List.replicate 24 (0xFF : Byte)).length ≤ 24 := by decide

/-- A BEARING frame written out from R192: kind, seq, length, tag, reach, azimuth, elevation, check. -/
theorem test_bearing_bytes :
    judgeFrame ([0x13, 5, 6, 41, 1, 0x30, 0x75, 0xD0, 0x07, 0x3C].map .data) .eof =
      .good (.bearing ⟨41, 1, 30000, 2000⟩) := by decide

/-- One frame for each check of R149 and R151. -/
theorem witness_FramesChecked :
    let short : List Byte := [0x14, 0, 2]
    let long : List Byte := [0x14, 0, 25, 0]
    let unfit : List Byte := [0x14, 0, 2, 0, 0]
    let unsummed : List Byte := [0x14, 0, 2, 0, 0, 0]
    short.length < 4 ∧ (4 ≤ long.length ∧ 24 < (byteAt long 2).toNat) ∧
    (4 ≤ unfit.length ∧ (byteAt unfit 2).toNat ≤ 24 ∧ unfit.length ≠ (byteAt unfit 2).toNat + 4) ∧
    (unsummed.length = (byteAt unsummed 2).toNat + 4 ∧ byteSum unsummed ≠ 0) ∧
    (0x16 : Byte) ∉ [(0x10 : Byte), 0x11, 0x12, 0x13, 0x14, 0x15, 0x1F] ∧
    (0 < [(0 : Byte), 0, 0, 0, 0, 0, 4, 0].length ∧ 3 < (byteAt [0, 0, 0, 0, 0, 0, 4, 0] 6).toNat) ∧
    (∀ c ∈ [LineChar.data 0x14, .control 0], c ≠ .parityError) ∧
    1 < (byteAt [0, 2, 0, 0, 0, 0] 1).toNat ∧ (0 < 2 + 4 ∧ (frameBytes 0x14 0 [1, 2]).getD 5 0 ≠ 0) := by decide

theorem witness_GoodFramesDelivered :
    (tracked.ports.get 1).state = .accepting ∧ (tracked.ports.get 1).inFrame = none ∧
    (⟨0, 1, 0, 0⟩ : BearingReport).reach.toNat ≤ 1 ∧ (⟨0, 0, 0, 3, 0⟩ : BreakReport).reason.toNat ≤ 3 ∧
    (List.replicate 24 (0 : Byte)).length ≤ 24 := by decide

/-- The entry joins a full queue, the oldest lost; the observation time takes the clamped latency. -/
theorem test_obs_joins_full_queue :
    let d := after (.obs 2 9 ⟨1, 2, 3, 4, 5, 50001, 6, 7⟩) paired
    (d.xfu.ingest.get 2).map (fun e => e.seq) = [12, 9] ∧ (d.xfu.ingest.get 2).map (fun e => e.time) = [0, 0xFFFF4098] ∧
    (d.stations.get 2).counters.superseded = 1 := by decide

theorem test_candidate_fail_frame :
    (after (.failFrame 1 0 0x03 2) taking).track.failure.reason = some .failed ∧
    (after (.failFrame 1 0 0x03 2) taking).smu.learnQueue.map (fun r => r.event) = [.failedTake] ∧
    ((after (.failFrame 1 0 0x03 2) taking).ports.get 1).views.fail = some (0x03, 2) := by decide

theorem test_pass_fills_mailbox_once :
    ((afterAll [.pass 0 0 [1, 2], .pass 0 1 [3]] ready).stations.get 0).mailbox = ⟨[1, 2], true⟩ ∧
    ((afterAll [.pass 0 0 [1, 2], .pass 0 1 [3]] ready).ports.get 0).flags.passOverrun = true ∧
    ((after (.ident 0 0 ⟨1, 2, 3, 4, 5⟩) ready).stations.get 0).identity = some ⟨1, 2, 3, 4, 5⟩ := by decide

theorem witness_BadFramesRefused :
    (ready.ports.get 0).state = .accepting ∧ (ready.ports.get 0).inFrame = none ∧
    isCheckFailure [.data 0x10, .control eofCode] = true ∧ isCheckFailure (List.replicate 29 (.data 0)) = true ∧
    isCheckFailure [.data 0x10, .control sofCode] = true ∧
    judgeFrame ((frameBytes 0x20 7 []).map .data) .eof = .badFormat 1 ∧
    (base.ports.get 0).state = .down ∧ (busy.ports.get 2).state = .refusing := by decide

theorem test_sof_refused_twice :
    ((after (.frameCheckFail 0 [.data 0x10, .control sofCode]) ready).ports.get 0).answers = [.nak, .nak] ∧
    ((after (.formatFail 0 0x20 7 []) ready).ports.get 0).capture = ⟨.format, 1, some 0x20, 1000⟩ ∧
    ((after (.formatFail 0 0x20 7 []) ready).ports.get 0).state = .accepting := by decide

/-! ## Witnesses: transforms and the filter -/

/-- The pointer at an empty port, the query queue served, an unloaded record, and nothing to serve. -/
theorem witness_GrantServesRing :
    paired.xfu.operation = none ∧ paired.xfu.ingest.get 0 = [entryOf 1, entryOf 2, entryOf 3] ∧
    (granted 4).pointer = .port 3 ∧ (granted 4).ingest.get 3 = [] ∧ (granted 4).queryQueue = [⟨3, .query, ⟨0, 0, 0⟩⟩] ∧
    (∀ p, ready.xfu.ingest.get p = []) ∧ ready.xfu.queryQueue = [] := by decide

theorem test_grant_drops_unloaded :
    let d := after .xfuGrant { paired with xfu := { paired.xfu with records := .same .reset } }
    d.xfu.operation = none ∧ d.xfu.grantDrops = 1 ∧ d.xfu.pointer = .port 0 := by decide

/-- Results of both kinds in flight, and no operation. -/
theorem witness_CompletionDelivers :
    (measuring tracked 1 .obs ⟨0, 0, 0⟩ 0 0 0 1).xfu.operation.isSome ∧
    ({ searching with xfu := { searching.xfu with operation := some ⟨.inverse ⟨3, .search, ⟨0, 0, 0⟩⟩ none, upright⟩ } }.xfu.operation =
      some ⟨.inverse ⟨3, .search, ⟨0, 0, 0⟩⟩ none, upright⟩) ∧ ready.xfu.operation = none ∧
    searching.track.searchPending.get 3 = true := by decide

theorem test_inverse_results :
    let asked := fun (d : Device) kind gen =>
      { d with xfu := { d.xfu with operation := some ⟨.inverse ⟨3, kind, ⟨7, 8, 9⟩⟩ gen, upright⟩ } }
    ((after .xfuCompletion (asked ready .query (some 0))).ports.get 3).slot = some (1, ⟨7, 8, 9⟩) ∧
    ((after .xfuCompletion (asked ready .query (some 1))).ports.get 3).slot = none ∧
    ((after .xfuCompletion (asked searching .search none)).ports.get 3).control = [.search (some (⟨7, 8, 9⟩, 300000))] := by decide

theorem test_foreign_and_late_results :
    (after .xfuCompletion (measuring tracked 1 .obs ⟨0, 0, 0⟩ 0 0 0 1)).track.counters.foreignObs = 1 ∧
    ((after .xfuCompletion (measuring tracked 1 .lock ⟨0, 0, 0⟩ 0 0 0 1)).ports.get 1).control = [.release .unsolicited] ∧
    (after .xfuCompletion (measuring tracked 1 .lock ⟨0, 0, 0⟩ 0 0 0 1)).track.counters.unsolicitedLocks = 1 := by decide

/-- A result for the track of `tracked`, dt µs after its last update. -/
def resultAt (dt : Word) (x : Int) : TrackResult := ⟨1, .obs, ⟨x, 0, 0⟩, false, 0, 0, 900 + dt, false, 1⟩

/-- dt of 0, 1, GAP and GAP + 1; residuals of GATE and GATE + 1; owner angles held and not. -/
theorem witness_ObservationFiltered :
    let dt := fun w => ((resultAt w 0).time - tracked.track.lastUpdate).toInt
    dt 0 = 0 ∧ dt 1 = 1 ∧ dt 100000 = tracked.params.gap ∧ dt 100001 = tracked.params.gap + 1 ∧
    tracked.track.residual (resultAt 1 50000) = ⟨50000, 0, 0⟩ ∧ tracked.params.gate = 50000 ∧
    filterRun.track.ownerAngles = some ⟨1000, 0, 5000000⟩ ∧ filterRun.track.state = .tracking ∧ filterRun.track.blind = false ∧
    tracked.track.ownerAngles = none := by decide

theorem test_gate_and_gap_boundaries :
    (tracked.observe (resultAt 1 50000)).track.outlierRun = 0 ∧ (tracked.observe (resultAt 1 50001)).track.outlierRun = 1 ∧
    (tracked.observe (resultAt 100000 50001)).track.outlierRun = 1 ∧ (tracked.observe (resultAt 100001 50001)).track.counters.reseeds = 1 ∧
    (tracked.observe (resultAt 0 0)).track.counters.stale = 1 := by decide

/-- Confirmation at HANDOFF_GATE, past it, and stale; another owner than the candidate; the winner of a search inside, at and past the
radius, and stale. -/
theorem witness_LocksConfirmed :
    taking.judgeLock (resultAt 1 25000) = .inside ∧ taking.judgeLock (resultAt 1 25001) = .outside ∧
    taking.judgeLock (resultAt 0 0) = .stale ∧ taking.judgeLock (resultAt 100001 90000) = .pastGap ∧
    taking.track.owner = some 0 ∧ (0 : Port) ≠ 1 ∧ coasting.track.state = .coast ∧ blindTaking.track.state = .handoff ∧
    searching.stationState (resultAt 1 300000).source = .searching ∧ searching.track.searchPoint = some ⟨0, 0, 0⟩ ∧
    ((resultAt 1 300000).measured.x - 0).natAbs ≤ searching.params.searchRadius ∧
    ¬ ((resultAt 1 300001).measured.x - 0).natAbs ≤ searching.params.searchRadius ∧
    0 < ((resultAt 901 0).time - searching.track.lastUpdate).toInt := by decide

theorem test_relock_outcomes :
    (coasting.confirmRelock (resultAt 1 25000) 0).track.state = .tracking ∧
    (coasting.confirmRelock (resultAt 1 25001) 0).track.state = .search ∧
    (blindTaking.confirmRelock (resultAt 1 25000) 0).track.state = .handoff ∧
    (blindTaking.confirmRelock (resultAt 1 25000) 0).track.blind = false := by decide

theorem test_search_radius_boundary :
    (searching.resolveSearch (resultAt 1 300000)).track.owner = some 1 ∧
    (searching.resolveSearch (resultAt 1 300001)).track.owner = none ∧
    ((searching.resolveSearch (resultAt 1 300000)).ports.get 2).control = [.release .notChosen] := by decide

/-! ## Witnesses: the engine -/

/-- An address in both windows, in window 1 alone, and in neither. -/
theorem witness_HostLayoutsAndAddresses :
    let e := { Engine.reset with window0 := ⟨true, 0x10000000, 12, 0x80000000⟩, window1 := ⟨true, 0x10000000, 31, 0x40000000⟩ }
    e.window0.exponent ≤ 31 ∧ e.window1.exponent ≤ 31 ∧
    e.translate 0x10000FFF = some 0x80000FFF ∧ e.translate 0x10001000 = some 0x10001000 ∧ e.translate 0x90000000 = none := by decide

/-- A descriptor in big byte order, and the last bytes of a record. -/
theorem test_layouts :
    (readDescriptor 0 true (0x00020010#32 ++ 0x10010010#32 ++ 0x00000400#32 ++ 0x00100010#32)).buffer = 0x10001000 ∧
    (readDescriptor 0 true (0x00020010#32 ++ 0x10010010#32 ++ 0x00000400#32 ++ 0x00100010#32)).capacity = 4 ∧
    ((recordOf 0x1F4).bytes false).take 4 = [0xF4, 1, 4, 0] ∧ ((recordOf 0x1F4).bytes true).take 4 = [1, 0xF4, 4, 0] := by decide

/-- No write in flight with a buffer open that holds a record, and a write in flight. -/
theorem witness_EngineActionsTaken :
    chainStart.engine.writeInFlight = false ∧ chainFirst.engine.writeInFlight = true ∧ chainStart.engine.startHeld = false ∧
    holding.engine.startHeld = true ∧ chainFirst.engine.startHeld = false := by decide

theorem test_control_word_actions :
    (after (.enable false false) base).engine.state = .idle ∧
    (after (.disable false false) chainFirst).engine.held = some .disable ∧
    (after (.disable false false) holding).sbi.status = ⟨0x40, .refused, .state⟩ ∧
    (after (.engineReset false false) chainStart).engine.state = .disabled ∧
    (after (.engineControlSettings true false) chainStart).engine.bigEndian = true := by decide

theorem test_start_flush_resume_judged :
    (after .roeStart base).sbi.status = ⟨0x40, .refused, .state⟩ ∧ (after .roeStart chainFirst).sbi.status = ⟨0x40, .pending, .nothing⟩ ∧
    (after .roeFlush base).sbi.status = ⟨0x41, .refused, .state⟩ ∧ (after .roeResume chainStart).sbi.status = ⟨0x42, .refused, .state⟩ := by
  decide

/-- An engine to flush, a writeback place in and out of the windows, an action held after its write. -/
theorem witness_BuffersCloseAndErrorsHalt :
    chainFirst.engine.current.isSome ∧ chainFirst.engine.translate 0x10000200 = some 0x80000200 ∧
    chainFirst.engine.translate 0x20000000 = none ∧
    holding.engine.writeInFlight = true ∧
    (let free := { holding with engine := { holding.engine with access := none } }
     free.engine.writeInFlight = false ∧ free.engine.held = some (.start 0x10000200)) ∧
    chainStart.engine.held = none := by decide

/-- The START held behind a writeback is taken at its end. -/
theorem test_held_start_taken :
    let d := after (.writebackEnd true) holding
    d.engine.held = none ∧ d.sbi.status = ⟨0x40, .done, .nothing⟩ ∧
    d.engine.access = some (.descriptorRead 0x10000200 0x80000200 false) := by decide

/-- A parity error comes before an unassigned control character that stands ahead of it. -/
theorem test_parity_before_control :
    judgeFrame [.data 0x14, .control 0, .parityError, .control 0] .eof = .failed .parity 3 ∧
    judgeFrame [.data 0x14, .control 0, .data 2] .eof = .failed .check 2 := by decide

/-- The record that a pending flush of 1 counts, in flight: its end closes the buffer PARTIAL and ends the flush. -/
theorem witness_RecordWritesBeginAndEnd_flush :
    let writing := after .recordWriteBegin (Device.flush (producing
      (after (.descriptorReadEnd (some d1)) (after .roeStart chainStart)) [500]))
    let d := after (.recordWriteEnd true) writing
    writing.engine.flush = some 1 ∧ (∀ n ∈ writing.engine.flush, 0 < n) ∧
    writing.engine.access = some (.recordWrite 0x10001000 0x80001000 ((recordOf 500).bytes false)) ∧
    d.engine.flush = none ∧ d.engine.bufferOpen = false ∧ d.engine.fifo = [] ∧
    d.engine.access = some (.writeback .followChain 0x10000100 0x10000200 0x80000200 [1, 0, 2, 0, 0xF4, 1, 0, 0]) := by decide

/-- A record to write, in a window and out of it, and one that lands in the last place. -/
theorem witness_RecordWritesBeginAndEnd :
    let d := producing (after (.descriptorReadEnd (some d1)) (after .roeStart chainStart)) [500, 501]
    d.engine.fifo = [recordOf 500, recordOf 501] ∧ d.engine.state = .running ∧ d.engine.bufferOpen = true ∧ d.engine.access = none ∧
    d.engine.translate 0x10001000 = some 0x80001000 ∧
    { d.engine with window0 := .reset }.translate 0x10001000 = none ∧
    (after .recordWriteBegin d).engine.access =
      some (.recordWrite 0x10001000 0x80001000 ((recordOf 500).bytes false)) ∧
    chainStart.engine.fifo = [] := by decide

theorem test_bus_error_halts :
    let d := after .recordWriteBegin (producing (after (.descriptorReadEnd (some d1)) (after .roeStart chainStart)) [500])
    let e := (after (.recordWriteEnd false) d).engine
    e.state = .halted ∧ e.error = some .bus ∧ e.errorAddress = 0x10001000 ∧ e.fifo = [recordOf 500] ∧
    e.access = some (.writeback .errorReport 0x10000100 0x10000200 0x80000200 [0, 0, 4, 5, 0, 0, 0, 0]) := by decide

/-- A writeback in flight, a descriptor read, a re-read. -/
theorem witness_WritebacksAndReadsEnd :
    chainFlushed.engine.access =
      some (.writeback .followChain 0x10000110 0x10000208 0x80000208 [3, 0, 2, 0, 0xFA, 1, 0, 0]) ∧
    (after .roeStart chainStart).engine.access = some (.descriptorRead 0x10000100 0x80000100 false) ∧
    (after .roeResume (after (.writebackEnd true) chainFlushed)).engine.access = some (.reread 0x10000118 0x80000118 false) ∧
    chainFlushed.engine.current.isSome := by decide

/-- The buffer at 0x10003010 of the worked example fails ALIGN, and the capacity is taken up to the end of the page. -/
theorem test_descriptor_checks :
    let answer := fun (buffer capacity : Word) => after (.descriptorReadEnd (some (0x10000210#32 ++ 0#32 ++ capacity ++ buffer)))
      (after .roeStart chainStart)
    (answer 0x10003010 8).engine.error = some .align ∧ (answer 0x10003000 128).engine.state = .running ∧
    (answer 0x10003020 128).engine.error = some .pageCross ∧ (answer 0x10003000 129).engine.error = some .capacity := by decide

/-! ## The step, and the host's two questions -/

/-- A step takes the front command, and an empty queue is one microsecond of TB. -/
theorem test_step_takes_front :
    step ⟨ready, [.busWidthClear, .cancel]⟩ = exec .busWidthClear ⟨ready, [.cancel]⟩ ∧
    step ⟨{ base with tb := 0xFFFFFFFF }, []⟩ = .next ⟨base, []⟩ := ⟨rfl, rfl⟩

/-- A frame row is its characters fed one after another. -/
theorem test_frame_row_is_its_characters :
    after (.failFrame 0 1 2 3) ready =
      afterAll ([.sof 0] ++ ((frameBytes kindFail 1 [2, 3]).map fun b => .dataCharacter 0 (.data b)) ++ [.eof 0]) ready := by decide

/-- The resets. -/
theorem test_resets :
    (after .hardwareReset busy).smu.sweep = some 0 ∧ (after (.softReset true) busy).smu.cells = busy.smu.cells ∧
    (after (.softReset true) busy).smu.sweep = none ∧ (after (.softReset true) busy).xfu.records = busy.xfu.records ∧
    (after (.softReset false) busy).sbi.lastReset = .soft := by decide

theorem test_unknown_code : (after (.unknownCommandCode 0x43) ready).sbi.status = ⟨0x43, .refused, .value⟩ := by decide

end Sys2Proof.Tests
end

section
/-! PROOFS. The transform unit's PAIR mode (R137): the requester after each in the ring, what a write does to the unit, and O40. -/

namespace Sys2Proof.Machine

/-! ## The ring of requesters, one place at a time (R135) -/

@[simp] theorem Requester.after_port_zero : (Requester.port 0).after = .port 1 := rfl
@[simp] theorem Requester.after_port_one : (Requester.port 1).after = .port 2 := rfl
@[simp] theorem Requester.after_port_two : (Requester.port 2).after = .port 3 := rfl
@[simp] theorem Requester.after_port_three : (Requester.port 3).after = .queryQueue := rfl
@[simp] theorem Requester.after_queryQueue : Requester.queryQueue.after = .port 0 := rfl

/-! ## Setting PAIR mode (R137) -/

/-- Turning the mode off ends a pair that has begun, as a grant of its second entry would. -/
theorem Xfu.setPairMode_false_of_pair {x : Xfu} (hmode : x.pairMode = true) (hflag : x.pairFlag = true) :
    x.setPairMode false = { x with pairMode := false, pairFlag := false, pointer := x.pointer.after } :=
  if_pos ⟨hmode, rfl, hflag⟩

/-- Where the write ends no pair, the pair flag and the rotation pointer stay. -/
theorem Xfu.setPairMode_of_not_ends_pair {x : Xfu} {on : Bool}
    (h : ¬ (x.pairMode = true ∧ on = false ∧ x.pairFlag = true)) :
    x.setPairMode on = { x with pairMode := on } :=
  if_neg h

/-- The command sets the mode of the transform unit and touches no other block and no waiting command. -/
theorem exec_pairModeWrite (d : Device) (q : List Instr) (w : Word) :
    exec (.pairModeWrite w) ⟨d, q⟩ = .next ⟨{ d with xfu := d.xfu.setPairMode (decide (w ≠ 0)) }, q⟩ := rfl

end Sys2Proof.Machine

namespace Sys2Proof

open Machine

/-- Settles O40: a write of 0 in the middle of a pair is the one write that ends it; the rotation pointer's move is then read off
place by place of the ring. -/
theorem pairModeWritten : Obligations.PairModeWritten := by
  intro d q w
  rw [exec_pairModeWrite]
  refine ⟨fun hmode hw hflag => ?_, fun hends => ?_⟩
  · have hoff : decide (w ≠ 0) = false := by simp [hw]
    rw [hoff, Xfu.setPairMode_false_of_pair hmode hflag]
    cases d.xfu.pointer with
    | queryQueue => simp
    | port p =>
      match p with
      | 0 | 1 | 2 | 3 => simp
  · have hkeeps : ¬ (d.xfu.pairMode = true ∧ decide (w ≠ 0) = false ∧ d.xfu.pairFlag = true) := by
      simpa using hends
    rw [Xfu.setPairMode_of_not_ends_pair hkeeps]

end Sys2Proof
end

section
/-! PROOFS. The host's PASS_SEND (R161): the bytes it takes from its parameter words, what the port makes of it, and O25. -/

namespace Sys2Proof.Machine

/-! ## The bytes of a row of words, lowest byte first (R192, R194) -/

/-- Byte i of a row of words: four bytes to a word, the lowest first, 0 beyond the row's end. -/
def byteOfWords (ws : List Word) (i : Nat) : Byte := ((ws.getD (i / 4) 0) >>> (8 * (i % 4))).setWidth 8

/-- The bytes after the first four are those of the row's other words. -/
theorem byteOfWords_cons_add (w : Word) (ws : List Word) (i : Nat) : byteOfWords (w :: ws) (4 + i) = byteOfWords ws i := by
  have hword : (4 + i) / 4 = i / 4 + 1 := by omega
  have hplace : (4 + i) % 4 = i % 4 := by omega
  simp [byteOfWords, hword, hplace]

/-- The first four bytes are the first word's. -/
theorem wordBytes_eq_byteOfWords (w : Word) (ws : List Word) : wordBytes w = (List.range 4).map (byteOfWords (w :: ws)) := by
  simp [wordBytes, byteOfWords, List.range_succ, ← BitVec.setWidth_ushiftRight_eq_extractLsb]

/-- The words' bytes one after the other, counted through the whole row. -/
theorem flatMap_wordBytes (ws : List Word) : ws.flatMap wordBytes = (List.range (4 * ws.length)).map (byteOfWords ws) := by
  induction ws with
  | nil => rfl
  | cons w ws ih =>
    have hlength : 4 * (w :: ws).length = 4 + 4 * ws.length := by simp; omega
    rw [List.flatMap_cons, ih, wordBytes_eq_byteOfWords w ws, hlength, List.range_add, List.map_append, List.map_map]
    congr 1
    exact List.map_congr_left fun i _ => (byteOfWords_cons_add w ws i).symm

/-- A payload that the parameter words hold is their first bytes, P2 to P7 in order (R161). -/
theorem passPayload_eq (q : ParameterWords) {length : Nat} (h : length ≤ 24) :
    passPayload q length = (List.range length).map (byteOfWords [q.p2, q.p3, q.p4, q.p5, q.p6, q.p7]) := by
  have hwords : passPayload q length = (([q.p2, q.p3, q.p4, q.p5, q.p6, q.p7] : List Word).flatMap wordBytes).take length := by
    simp [passPayload]
  have hfirst : min length (4 * 6) = length := by omega
  rw [hwords, flatMap_wordBytes, ← List.map_take, List.take_range]
  exact congrArg (fun n => (List.range n).map _) hfirst

/-! ## A command judged with no START held (R188) -/

theorem Device.command_of_taken {d d' : Device} {judge : Device → CommandResult} (code : Byte)
    (hfree : d.engine.startHeld = false) (h : judge d = .taken d') : d.command code judge = d'.setStatus code .done .nothing := by
  simp [Device.command, hfree, h]

theorem Device.command_of_refused {d : Device} {judge : Device → CommandResult} {reason : RefusalReason} (code : Byte)
    (hfree : d.engine.startHeld = false) (h : judge d = .refused reason) :
    d.command code judge = d.setStatus code .refused reason := by
  simp [Device.command, hfree, h]

/-! ## What a port makes of PASS_SEND (R161) -/

/-- The host's share of a control queue is counted alike by the model and by the invariants (R160). -/
theorem LinkPort.hostEntries_eq_passes (l : LinkPort) : l.hostEntries = l.passes := List.countP_eq_length_filter.symm

theorem Device.judgePassSend_of_out_of_range {d : Device}
    (h : 3 < d.sbi.parameters.p0.toNat ∨ 24 < d.sbi.parameters.p1.toNat) : d.judgePassSend = .refused .range := by
  unfold Device.judgePassSend
  cases hp : portOfWord d.sbi.parameters.p0 with
  | none => rfl
  | some p =>
    have hport : ¬ 3 < d.sbi.parameters.p0.toNat := by simp [← portOfWord_eq_none, hp]
    exact if_pos (h.resolve_left hport)

/-- With its parameters in range PASS_SEND is judged by the port's state, then by the host's share of the queue. -/
theorem Device.judgePassSend_of_in_range {d : Device} {p : Port}
    (hport : d.sbi.parameters.p0.toNat = p.val) (hlength : d.sbi.parameters.p1.toNat ≤ 24) :
    d.judgePassSend =
      if (d.ports.get p).state = .down then .refused .state
      else if 2 ≤ (d.ports.get p).passes then .refused .full
      else .taken (d.onPort p fun l => l.place (.pass (passPayload d.sbi.parameters d.sbi.parameters.p1.toNat))) := by
  have hp : portOfWord d.sbi.parameters.p0 = some p := (portOfWord_eq_some _ p).2 hport
  simp only [Device.judgePassSend, hp, LinkPort.hostEntries_eq_passes, Config.hostShare, if_neg (Nat.not_lt.2 hlength)]

/-- The command is judged on the parameter words as they stand, and no waiting command is touched. -/
theorem exec_passSend (d : Device) (q : List Instr) :
    exec .passSend ⟨d, q⟩ = .next ⟨d.command 0x30 Device.judgePassSend, q⟩ := rfl

end Sys2Proof.Machine

namespace Sys2Proof

open Machine

/-- Settles O25: the port's judgement decides between the four results, and the payload of a taken one is read off the parameter words. -/
theorem passSent : Obligations.PassSent := by
  intro d q hfree w length payload
  rw [exec_passSend]
  refine ⟨fun hrange => ?_, fun p hport hlength => ?_⟩
  · rw [Device.command_of_refused _ hfree (Device.judgePassSend_of_out_of_range hrange)]
  have hjudge := Device.judgePassSend_of_in_range hport hlength
  refine ⟨fun hdown => ?_, fun hup hfull => ?_, fun hup hroom => ?_⟩
  · rw [if_pos hdown] at hjudge
    rw [Device.command_of_refused _ hfree hjudge]
  · rw [if_neg hup, if_pos hfull] at hjudge
    rw [Device.command_of_refused _ hfree hjudge]
  · rw [if_neg hup, if_neg (Nat.not_le.2 hroom), passPayload_eq _ hlength] at hjudge
    rw [Device.command_of_taken _ hfree hjudge]
    rfl

end Sys2Proof
end

section
/-! PROOFS. The notice unit (R183 to R185): the word of flags source by source, the flag write with O38, and the line, SOURCE and the two
stored words with O39. -/

namespace Sys2Proof.Machine

/-! ## A source's place in the notice words (section 9.1) -/

theorem Notice.number_lt (source : Notice) : source.number < 14 := by
  cases source with
  | portFault p => exact Nat.lt_trans p.isLt (by decide)
  | _ => simp [Notice.number]

/-- Bits 0 to 3 are the four ports', bits 4 to 13 one source's each. -/
theorem Notice.exists_number_eq {n : Nat} (h : n < 14) : ∃ source : Notice, source.number = n := by
  by_cases hport : n < 4
  · exact ⟨.portFault ⟨n, hport⟩, rfl⟩
  have hcases : n = 4 ∨ n = 5 ∨ n = 6 ∨ n = 7 ∨ n = 8 ∨ n = 9 ∨ n = 10 ∨ n = 11 ∨ n = 12 ∨ n = 13 := by omega
  rcases hcases with rfl | rfl | rfl | rfl | rfl | rfl | rfl | rfl | rfl | rfl
  exacts [⟨.trackLost, rfl⟩, ⟨.handoffFailed, rfl⟩, ⟨.handoffDone, rfl⟩, ⟨.trackState, rfl⟩, ⟨.recordError, rfl⟩,
    ⟨.bufferDone, rfl⟩, ⟨.chainEnd, rfl⟩, ⟨.mapDone, rfl⟩, ⟨.passIn, rfl⟩, ⟨.stationChange, rfl⟩]

theorem Notice.getLsbD_bit (source : Notice) (n : Nat) : source.bit.getLsbD n = decide (source.number = n) := by
  rw [Notice.bit, ← BitVec.twoPow_eq, BitVec.getLsbD_twoPow]
  simp [source.number_lt]

/-- A source's bit, given while a condition holds. -/
theorem Notice.getLsbD_ite_bit (c : Prop) [Decidable c] (source : Notice) (n : Nat) :
    (if c then source.bit else 0).getLsbD n = (decide c && decide (source.number = n)) := by
  split <;> simp [Notice.getLsbD_bit, *]

/-! ## The conditions (R183) -/

/-- Whether the condition of a source holds; eight of the fourteen sources have none. -/
def Device.conditionHolds (d : Device) : Notice → Bool
  | .portFault p => decide ((d.ports.get p).state = .refusing)
  | .recordError => decide (d.engine.state = .halted)
  | .chainEnd => decide (d.engine.state = .starved)
  | _ => false

/-- The word of conditions holds each source's condition at the source's bit. -/
theorem Device.getLsbD_conditions (d : Device) (source : Notice) :
    d.conditions.getLsbD source.number = d.conditionHolds source := by
  simp only [Device.conditions, BitVec.getLsbD_or, Notice.getLsbD_ite_bit]
  cases source with
  | portFault p =>
    match p with
    | 0 | 1 | 2 | 3 =>
      simp [Notice.number]
      rfl
  | _ => simp [Notice.number, Device.conditionHolds]

/-! ## The flag write (R185) -/

/-- A bit written 1 leaves its flag as its source's condition stands, a bit written 0 as it was. -/
theorem Notices.getLsbD_clear_flags (n : Notices) (conditions written : BitVec 14) {i : Nat} (h : i < 14) :
    (n.clear conditions written).flags.getLsbD i =
      if written.getLsbD i then conditions.getLsbD i else n.flags.getLsbD i := by
  simp only [Notices.clear, BitVec.getLsbD_or, BitVec.getLsbD_and, BitVec.getLsbD_not, h]
  cases written.getLsbD i <;> simp

/-- The bits of a written word that a notice word takes are its own fourteen (R184, R185). -/
theorem getLsbD_noticeBits (w : Word) {i : Nat} (h : i < 14) : (w.extractLsb' 0 14).getLsbD i = w.getLsbD i := by
  simp [h]

/-- The command clears flags of the notice unit and touches no other block and no waiting command. -/
theorem exec_noticeFlagClear (d : Device) (q : List Instr) (w : Word) :
    exec (.noticeFlagClear w) ⟨d, q⟩ =
      .next ⟨{ d with notices := { d.notices with
        flags := (d.notices.clear d.conditions (w.extractLsb' 0 14)).flags } }, q⟩ := rfl

/-! ## The mask and the global enable (R184) -/

theorem exec_noticeMaskWrite (d : Device) (q : List Instr) (w : Word) :
    exec (.noticeMaskWrite w) ⟨d, q⟩ = .next ⟨{ d with notices := { d.notices with mask := w.setWidth 14 } }, q⟩ := by
  rw [BitVec.setWidth_eq_extractLsb' (by decide : 14 ≤ 32)]
  rfl

theorem exec_noticeControlWrite (d : Device) (q : List Instr) (w : Word) :
    exec (.noticeControlWrite w) ⟨d, q⟩ =
      .next ⟨{ d with notices := { d.notices with enabled := w.getLsbD 0 } }, q⟩ := rfl

/-! ## The line and SOURCE (R184) -/

/-- A source is set and unmasked where its flag is set and its mask bit is clear. -/
theorem Notices.getLsbD_unmasked (n : Notices) (i : Nat) :
    (n.flags &&& ~~~n.mask).getLsbD i = true ↔ n.flags.getLsbD i = true ∧ n.mask.getLsbD i = false := by
  have hbound : n.flags.getLsbD i = true → i < 14 := BitVec.lt_of_getLsbD
  simp only [BitVec.getLsbD_and, BitVec.getLsbD_not, Bool.and_eq_true, Bool.not_eq_true', decide_eq_true_eq]
  tauto

theorem Notices.line_iff (n : Notices) :
    n.line = true ↔ n.enabled = true ∧ ∃ i, i < 14 ∧ n.flags.getLsbD i = true ∧ n.mask.getLsbD i = false := by
  have hword : n.flags &&& ~~~n.mask ≠ 0 ↔ ∃ i, (n.flags &&& ~~~n.mask).getLsbD i = true := by
    simp [BitVec.zero_iff_eq_false]
  simp only [Notices.line, Bool.and_eq_true, decide_eq_true_eq, hword, Notices.getLsbD_unmasked]
  exact and_congr_right fun _ => exists_congr fun i =>
    ⟨fun h => ⟨BitVec.lt_of_getLsbD h.1, h⟩, And.right⟩

/-- SOURCE names the lowest source set and unmasked. -/
theorem Notices.sourceWord_of_lowest (n : Notices) {i : Nat} (h : i < 14)
    (hshows : n.flags.getLsbD i = true ∧ n.mask.getLsbD i = false)
    (hlowest : ∀ j, j < i → ¬ (n.flags.getLsbD j = true ∧ n.mask.getLsbD j = false)) : n.sourceWord = i + 1 := by
  simp only [← Notices.getLsbD_unmasked, Bool.not_eq_true] at hshows hlowest
  have hfind : (List.range 14).find? (fun i => (n.flags &&& ~~~n.mask).getLsbD i) = some i :=
    List.find?_range_eq_some.2 ⟨hshows, List.mem_range.2 h, fun j hj => by rw [hlowest j hj]; rfl⟩
  rw [Notices.sourceWord, hfind]

theorem Notices.sourceWord_of_none (n : Notices)
    (hnone : ∀ i, i < 14 → ¬ (n.flags.getLsbD i = true ∧ n.mask.getLsbD i = false)) : n.sourceWord = 0 := by
  simp only [← Notices.getLsbD_unmasked, Bool.not_eq_true] at hnone
  have hfind : (List.range 14).find? (fun i => (n.flags &&& ~~~n.mask).getLsbD i) = none :=
    List.find?_range_eq_none.2 fun i hi => by rw [hnone i hi]; rfl
  rw [Notices.sourceWord, hfind]

/-- SOURCE is 14 at most, so that it fits its field of the register map. -/
theorem Notices.sourceWord_le (n : Notices) : n.sourceWord ≤ 14 := by
  unfold Notices.sourceWord
  split
  · next i h => exact Nat.succ_le_of_lt (List.mem_range.1 (List.mem_of_find?_eq_some h))
  · exact Nat.zero_le _

/-- A value that its field has room for stands there whole. -/
theorem fieldAt_zero_of_lt {width v : Nat} (h : v < 2 ^ width) : fieldAt 0 width v = BitVec.ofNat 32 v := by
  simp [fieldAt, Nat.mod_eq_of_lt h]

theorem Device.readWord_source (d : Device) : d.readWord 0x01C = BitVec.ofNat 32 d.notices.sourceWord := by
  have hfits : d.notices.sourceWord < 2 ^ 4 := Nat.lt_of_le_of_lt d.notices.sourceWord_le (by decide)
  rw [← fieldAt_zero_of_lt hfits]
  rfl

/-- SOURCE is a read-only word. -/
theorem exec_registerWrite_source (d : Device) (q : List Instr) (w : Word) :
    exec (.registerWrite 0x01C w) ⟨d, q⟩ = .next ⟨d, q⟩ := rfl

end Sys2Proof.Machine

namespace Sys2Proof

open Machine

/-- Settles O38: each bit of the flag word belongs to one source, and what the write leaves there is said source by source. -/
theorem noticeFlagsCleared : Obligations.NoticeFlagsCleared := by
  intro d q w holds
  refine ⟨_, exec_noticeFlagClear d q w, fun n hn => ?_⟩
  obtain ⟨source, rfl⟩ := Notice.exists_number_eq hn
  have hcondition : d.conditionHolds source = holds source.number := by
    cases source with
    | portFault p =>
      match p with
      | 0 | 1 | 2 | 3 => rfl
    | _ => rfl
  rw [Notices.getLsbD_clear_flags _ _ _ hn, getLsbD_noticeBits w hn, d.getLsbD_conditions, hcondition]

/-- Settles O39, from what the line and SOURCE make of the sources that are set and unmasked. -/
theorem noticeLineFollows : Obligations.NoticeLineFollows := by
  intro d q w
  exact ⟨exec_noticeMaskWrite d q w, exec_noticeControlWrite d q w,
    ⟨d.notices.line_iff, fun _ => d.notices.sourceWord_of_lowest, d.notices.sourceWord_of_none, d.readWord_source⟩,
    exec_registerWrite_source d q w⟩

end Sys2Proof
end

section
/-! PROOFS. What a command makes of the part, said once for all commands, with the events that many rows share; O1 and O2. -/

namespace Sys2Proof.Machine

/-! ## The effect of a command on the part -/

/-- The part after a command: what exec answers with. -/
def Instr.effect (c : Instr) (d : Device) : Device :=
  match exec c ⟨d, []⟩ with
  | .next s => s.device
  | _ => d

/-- Every command completes, with its effect on the part and the waiting commands as they were. -/
theorem exec_eq_effect (c : Instr) (d : Device) (q : List Instr) : exec c ⟨d, q⟩ = .next ⟨Instr.effect c d, q⟩ := by
  cases c <;> rfl

/-- A step from a waiting command is that command's effect; from an empty queue it is a tick. -/
theorem step_eq_next {s t : State} (h : step s = .next t) :
    (s.pending = [] ∧ t.device = s.device.tick) ∨ ∃ c rest, s.pending = c :: rest ∧ t.device = Instr.effect c s.device := by
  obtain ⟨d, pending⟩ := s
  cases pending with
  | nil =>
    obtain rfl : (⟨d.tick, []⟩ : State) = t := by simpa [step] using h
    exact .inl ⟨rfl, rfl⟩
  | cons c rest =>
    have run : exec c ⟨d, rest⟩ = .next t := h
    rw [exec_eq_effect] at run
    obtain rfl : (⟨Instr.effect c d, rest⟩ : State) = t := by simpa using run
    exact .inr ⟨c, rest, rfl, rfl⟩

/-- What a tick and every command's effect keep, every step keeps. -/
theorem step_keeps {P : Device → Prop} {s t : State} (h : step s = .next t) (tick : P s.device → P s.device.tick)
    (effect : ∀ c : Instr, P s.device → P (Instr.effect c s.device)) (hs : P s.device) : P t.device := by
  rcases step_eq_next h with ⟨-, same⟩ | ⟨c, rest, -, same⟩ <;> rw [same]
  · exact tick hs
  · exact effect c hs

/-! ## Tables over the four ports -/

@[simp] theorem get_eachPort {α : Type} (f : Port → α) (p : Port) : (eachPort f).get p = f p := by fin_cases p <;> rfl

/-- A mapped table, place by place. -/
theorem PerPort.map_eq_eachPort {α β : Type} (v : PerPort α) (f : α → β) : v.map f = eachPort fun p => f (v.get p) := rfl

/-- A table is what each of its places holds. -/
@[simp] theorem eachPort_get {α : Type} (v : PerPort α) : (eachPort fun p => v.get p) = v := rfl

/-- A table written at one place is the table of the new value there and the old ones elsewhere. -/
theorem PerPort.set_eq_eachPort {α : Type} (v : PerPort α) (p : Port) (a : α) :
    v.set p a = eachPort fun r => if r = p then a else v.get r :=
  PerPort.ext_get _ _ fun r => by rw [PerPort.get_set, get_eachPort]

end Sys2Proof.Machine

namespace Sys2Proof

open Machine

/-- Settles O1: the character a port puts on its line is read off the cases of its sending half. -/
theorem stepRunsFrontCommand : Obligations.StepRunsFrontCommand := by
  refine ⟨fun c d rest => rfl, ?_⟩
  intro d sent
  have same : ∀ l : LinkPort, sent l = l.sendCharacter := by
    intro l
    have ending : sent l = if l.eofGoing then l else _ := rfl
    by_cases going : l.eofGoing = true
    · rw [ending, if_pos going, LinkPort.sendCharacter, if_pos going]
    rw [ending, if_neg going]
    rcases l.sendCharacter_cases with ⟨still, -⟩ | ⟨a, rest, answers, h⟩ | ⟨f, n, c, answers, sending, char, h⟩ |
      ⟨answers, free, h⟩
    · exact absurd still going
    · cases a <;> simp [h, answers, LinkAnswer.char, ackCode, nakCode]
    · simp [h, answers, sending, List.getD_eq_getElem?_getD, char]
    · cases hs : l.sending with
      | sending f n => exact absurd hs (free f n)
      | idle | awaiting f => simp [h, answers, idleCode, hs]
  have ports : (eachPort fun p => sent (d.ports.get p)) = d.ports.map LinkPort.sendCharacter := by
    rw [PerPort.map_eq_eachPort]
    exact congrArg eachPort (funext fun p => same _)
  rw [ports]
  rfl

/-- Settles O2. -/
theorem everyCommandAnswersNext : Obligations.EveryCommandAnswersNext :=
  fun c d q => ⟨_, exec_eq_effect c d q⟩

end Sys2Proof
end

section
/-! PROOFS. The record output engine (R166 to R180): what each of its operations keeps of the records it counts, of its own order and of
the shown conditions. -/

namespace Sys2Proof.Machine

/-! ## The ledger: the FIFO, the three record counters and the held action -/

@[simp] theorem Device.engineError_ledger (d : Device) (code : EngineError) (address : Word) :
    (d.engineError code address).engine.fifo = d.engine.fifo ∧ (d.engineError code address).engine.produced = d.engine.produced ∧
      (d.engineError code address).engine.written = d.engine.written ∧
      (d.engineError code address).engine.dropped = d.engine.dropped ∧
      (d.engineError code address).engine.held = d.engine.held := ⟨rfl, rfl, rfl, rfl, rfl⟩

@[simp] theorem Device.reportError_ledger (d : Device) (c : Descriptor) (code : EngineError) :
    (d.reportError c code).engine.fifo = d.engine.fifo ∧ (d.reportError c code).engine.produced = d.engine.produced ∧
      (d.reportError c code).engine.written = d.engine.written ∧ (d.reportError c code).engine.dropped = d.engine.dropped ∧
      (d.reportError c code).engine.held = d.engine.held := by
  unfold Device.reportError
  split <;> exact ⟨rfl, rfl, rfl, rfl, rfl⟩

@[simp] theorem Device.beginFetch_ledger (d : Device) :
    d.beginFetch.engine.fifo = d.engine.fifo ∧ d.beginFetch.engine.produced = d.engine.produced ∧
      d.beginFetch.engine.written = d.engine.written ∧ d.beginFetch.engine.dropped = d.engine.dropped ∧
      d.beginFetch.engine.held = d.engine.held := by
  unfold Device.beginFetch
  repeat' split
  all_goals exact ⟨rfl, rfl, rfl, rfl, rfl⟩

@[simp] theorem Device.beginWriteback_ledger (d : Device) (purpose : WritebackPurpose) (status : CompletionStatus) (c : Descriptor) :
    (d.beginWriteback purpose status c).engine.fifo = d.engine.fifo ∧
      (d.beginWriteback purpose status c).engine.produced = d.engine.produced ∧
      (d.beginWriteback purpose status c).engine.written = d.engine.written ∧
      (d.beginWriteback purpose status c).engine.dropped = d.engine.dropped ∧
      (d.beginWriteback purpose status c).engine.held = d.engine.held := by
  unfold Device.beginWriteback
  repeat' split
  all_goals exact ⟨rfl, rfl, rfl, rfl, rfl⟩

@[simp] theorem Device.closeBuffer_ledger (d : Device) (status : CompletionStatus) :
    (d.closeBuffer status).engine.fifo = d.engine.fifo ∧ (d.closeBuffer status).engine.produced = d.engine.produced ∧
      (d.closeBuffer status).engine.written = d.engine.written ∧ (d.closeBuffer status).engine.dropped = d.engine.dropped ∧
      (d.closeBuffer status).engine.held = d.engine.held := by
  unfold Device.closeBuffer
  split <;> simp

@[simp] theorem Device.flush_ledger (d : Device) :
    d.flush.engine.fifo = d.engine.fifo ∧ d.flush.engine.produced = d.engine.produced ∧
      d.flush.engine.written = d.engine.written ∧ d.flush.engine.dropped = d.engine.dropped ∧
      d.flush.engine.held = d.engine.held := by
  simp only [Device.flush]
  repeat' split
  all_goals simp

@[simp] theorem Device.takeStart_ledger (d : Device) (address : Word) :
    (d.takeStart address).engine.fifo = d.engine.fifo ∧ (d.takeStart address).engine.produced = d.engine.produced ∧
      (d.takeStart address).engine.written = d.engine.written ∧ (d.takeStart address).engine.dropped = d.engine.dropped ∧
      (d.takeStart address).engine.held = d.engine.held := by
  unfold Device.takeStart
  split <;> simp

@[simp] theorem Device.takeEnable_ledger (d : Device) :
    d.takeEnable.engine.fifo = d.engine.fifo ∧ d.takeEnable.engine.produced = d.engine.produced ∧
      d.takeEnable.engine.written = d.engine.written ∧ d.takeEnable.engine.dropped = d.engine.dropped ∧
      d.takeEnable.engine.held = d.engine.held := by
  simp only [Device.takeEnable, Device.onEngine_engine]
  split <;> exact ⟨rfl, rfl, rfl, rfl, rfl⟩

@[simp] theorem Device.takeResume_ledger (d : Device) :
    d.takeResume.engine.fifo = d.engine.fifo ∧ d.takeResume.engine.produced = d.engine.produced ∧
      d.takeResume.engine.written = d.engine.written ∧ d.takeResume.engine.dropped = d.engine.dropped ∧
      d.takeResume.engine.held = d.engine.held := by
  simp only [Device.takeResume]
  split <;> exact ⟨rfl, rfl, rfl, rfl, rfl⟩

@[simp] theorem Device.takeDisable_held (d : Device) : d.takeDisable.engine.held = d.engine.held := by
  simp only [Device.takeDisable]
  repeat' split
  all_goals simp

/-! ## Conservation of records (R166, R167) -/

/-- The record books of the engine balance, and its FIFO holds at most sixteen. -/
structure Engine.Balanced (e : Engine) : Prop where
  conserves : e.Conserves
  bounded : e.FifoBounded

/-- An engine with the same ledger balances too. -/
theorem Engine.Balanced.of_ledger {e f : Engine} (h : e.Balanced)
    (same : f.fifo = e.fifo ∧ f.produced = e.produced ∧ f.written = e.written ∧ f.dropped = e.dropped) : f.Balanced := by
  obtain ⟨fifo, produced, written, dropped⟩ := same
  refine ⟨?_, ?_⟩
  · rw [Engine.Conserves, fifo, produced, written, dropped]
    exact h.conserves
  · rw [Engine.FifoBounded, fifo]
    exact h.bounded

theorem Engine.Balanced.reset : Engine.reset.Balanced := ⟨rfl, Nat.zero_le _⟩

/-- A produced record is held or dropped (R166). -/
theorem Engine.Balanced.join {e : Engine} (h : e.Balanced) (r : Record) : (e.join r).Balanced := by
  have books : e.produced = e.written + e.dropped + BitVec.ofNat 32 e.fifo.length := h.conserves
  have bounded : e.fifo.length ≤ 16 := h.bounded
  rcases e.join_cases r with ⟨joined, -⟩ | ⟨joined, -, room⟩ <;> rw [joined]
  · exact ⟨by rw [Engine.Conserves, books]; grind, bounded⟩
  · refine ⟨?_, ?_⟩
    · have one : BitVec.ofNat 32 (e.fifo ++ [r]).length = BitVec.ofNat 32 e.fifo.length + 1 := by
        rw [List.length_append]
        exact BitVec.ofNat_add ..
      rw [Engine.Conserves, books, one]
      grind
    · simpa [Engine.FifoBounded] using room

/-- A record that lands leaves the FIFO and counts as written (R176). -/
theorem Engine.Balanced.landed {e f : Engine} {r : Record} (h : e.Balanced) (fifo : e.fifo = r :: f.fifo)
    (same : f.produced = e.produced ∧ f.written = e.written + 1 ∧ f.dropped = e.dropped) : f.Balanced := by
  have books : e.produced = e.written + e.dropped + BitVec.ofNat 32 e.fifo.length := h.conserves
  have bounded : e.fifo.length ≤ 16 := h.bounded
  obtain ⟨produced, written, dropped⟩ := same
  have one : BitVec.ofNat 32 e.fifo.length = BitVec.ofNat 32 f.fifo.length + 1 := by
    rw [fifo, List.length_cons]
    exact BitVec.ofNat_add ..
  refine ⟨?_, ?_⟩
  · rw [Engine.Conserves, produced, written, dropped, books, one]
    grind
  · rw [fifo, List.length_cons] at bounded
    exact Nat.le_of_succ_le bounded

/-- The records held when the engine is disabled count as dropped (R170). -/
theorem Engine.Balanced.emptied {e f : Engine} (h : e.Balanced) (fifo : f.fifo = [])
    (same : f.produced = e.produced ∧ f.written = e.written ∧ f.dropped = e.dropped + BitVec.ofNat 32 e.fifo.length) :
    f.Balanced := by
  have books : e.produced = e.written + e.dropped + BitVec.ofNat 32 e.fifo.length := h.conserves
  obtain ⟨produced, written, dropped⟩ := same
  refine ⟨?_, by simp [Engine.FifoBounded, fifo]⟩
  rw [Engine.Conserves, produced, written, dropped, fifo, books]
  simp [BitVec.add_assoc]

theorem Device.takeDisable_balanced {d : Device} (h : d.engine.Balanced) : d.takeDisable.engine.Balanced := by
  simp only [Device.takeDisable]
  split
  · exact h
  · repeat' split
    all_goals exact h.emptied (by simp) (by simp)

theorem Device.takeHeld_balanced {d : Device} (h : d.engine.Balanced) : d.takeHeld.engine.Balanced := by
  have free : (d.onEngine fun e => { e with held := none }).engine.Balanced := h.of_ledger ⟨rfl, rfl, rfl, rfl⟩
  simp only [Device.takeHeld]
  repeat' split
  · exact h
  · exact h
  · exact free.of_ledger (by simp)
  · exact free.of_ledger (by simp)
  · exact Device.takeDisable_balanced free
  · exact Engine.Balanced.reset.of_ledger ⟨rfl, rfl, rfl, rfl⟩

/-! ## The engine's own order (section 8.2) -/

/-- The engine's order but for a held action: what its operations keep while the action's write ends. -/
def Engine.OrderedFree (e : Engine) : Prop := Engine.Ordered { e with held := none }

theorem Engine.Ordered.free {e : Engine} (h : e.Ordered) : e.OrderedFree :=
  ⟨h.buffer, h.writing, h.closing, h.rereading, h.flushing, h.disabled, fun k => absurd k (by simp)⟩

/-- The fields of the engine that its order speaks of, but for a held action. -/
def Engine.orderFields (e : Engine) :
    EngineState × Bool × Bool × Option Access × List Record × Option Nat :=
  (e.state, e.bufferOpen, e.current.isSome, e.access, e.fifo, e.flush)

/-- An engine with the same fields is in order too. -/
theorem Engine.OrderedFree.of_fields {e f : Engine} (h : e.OrderedFree) (same : f.orderFields = e.orderFields) : f.OrderedFree := by
  simp only [Engine.orderFields, Prod.mk.injEq] at same
  obtain ⟨state, opened, current, access, fifo, flush⟩ := same
  refine ⟨fun k => ?_, fun a b l k => ?_, fun u x a b l k => ?_, fun a b g k => ?_, fun n k => ?_, fun k => ?_,
    fun k => by simp at k⟩
  · simpa [state, current] using h.buffer (opened.symm.trans k)
  · simpa [opened, fifo] using h.writing a b l (access.symm.trans k)
  · simpa [opened] using h.closing u x a b l (access.symm.trans k)
  · simpa [state] using h.rereading a b g (access.symm.trans k)
  · simpa [state, fifo] using h.flushing n (flush.symm.trans k)
  · simpa [fifo] using h.disabled (state.symm.trans k)

/-- With no action held, or a write in flight, the order is whole. -/
theorem Engine.OrderedFree.ordered {e : Engine} (h : e.OrderedFree) (held : e.held.isSome = true → e.writeInFlight = true) :
    e.Ordered :=
  ⟨h.buffer, h.writing, h.closing, h.rereading, h.flushing, h.disabled, held⟩

theorem Engine.OrderedFree.ordered_of_none {e : Engine} (h : e.OrderedFree) (held : e.held = none) : e.Ordered :=
  h.ordered fun k => absurd k (by simp [held])

/-- With no write in flight no action is held. -/
theorem Engine.Ordered.held_none {e : Engine} (h : e.Ordered) (idle : e.writeInFlight = false) : e.held = none := by
  cases held : e.held with
  | none => rfl
  | some a => exact absurd (h.held (by simp [held])) (by simp [idle])

theorem Engine.Ordered.reset : Engine.reset.Ordered where
  buffer := fun h => by simp [Engine.reset] at h
  writing := fun _ _ _ h => by simp [Engine.reset] at h
  closing := fun _ _ _ _ _ h => by simp [Engine.reset] at h
  rereading := fun _ _ _ h => by simp [Engine.reset] at h
  flushing := fun _ h => by simp [Engine.reset] at h
  disabled := fun _ => rfl
  held := fun h => by simp [Engine.reset] at h

/-- A halted engine, with no buffer open, no access in flight and no flush pending, is in order. -/
theorem Device.engineError_ordered (d : Device) (code : EngineError) (address : Word) :
    (d.engineError code address).engine.OrderedFree where
  buffer := fun h => by simp [Device.engineError] at h
  writing := fun _ _ _ h => by simp [Device.engineError] at h
  closing := fun _ _ _ _ _ h => by simp [Device.engineError] at h
  rereading := fun _ _ _ h => by simp [Device.engineError] at h
  flushing := fun _ h => by simp [Device.engineError] at h
  disabled := fun h => by simp [Device.engineError] at h
  held := fun h => by simp at h

/-- An access that reads a descriptor, or a completion writeback of a closed buffer, may begin. -/
theorem Engine.OrderedFree.beginRead {e : Engine} (h : e.OrderedFree) (a b : Word) (g : Bool) :
    Engine.OrderedFree { e with access := some (.descriptorRead a b g) } :=
  ⟨h.buffer, fun _ _ _ k => by simp at k, fun _ _ _ _ _ k => by simp at k, fun _ _ _ k => by simp at k, h.flushing, h.disabled,
    fun k => by simp at k⟩

theorem Engine.OrderedFree.beginWriteback {e : Engine} (h : e.OrderedFree) (closed : e.bufferOpen = false)
    (u : WritebackPurpose) (x a b : Word) (l : List Byte) :
    Engine.OrderedFree { e with access := some (.writeback u x a b l) } :=
  ⟨h.buffer, fun _ _ _ k => by simp at k, fun _ _ _ _ _ _ => closed, fun _ _ _ k => by simp at k, h.flushing, h.disabled,
    fun k => by simp at k⟩

/-- An access may end. -/
theorem Engine.OrderedFree.endAccess {e : Engine} (h : e.OrderedFree) : Engine.OrderedFree { e with access := none } :=
  ⟨h.buffer, fun _ _ _ k => by simp at k, fun _ _ _ _ _ k => by simp at k, fun _ _ _ k => by simp at k, h.flushing, h.disabled,
    fun k => by simp at k⟩

theorem Device.reportError_ordered {d : Device} (h : d.engine.OrderedFree) (closed : d.engine.bufferOpen = false) (c : Descriptor)
    (code : EngineError) : (d.reportError c code).engine.OrderedFree := by
  unfold Device.reportError
  split
  · exact h.beginWriteback closed ..
  · exact h

theorem Device.beginFetch_ordered {d : Device} (h : d.engine.OrderedFree) : d.beginFetch.engine.OrderedFree := by
  unfold Device.beginFetch
  repeat' split
  · exact h
  · exact d.engineError_ordered ..
  · exact d.engineError_ordered ..
  · exact h.beginRead ..

/-- The writeback of a closed buffer begins over whatever access there was: an error of its own place ends that access too, but for
the final writeback of DISABLE, which begins with none. -/
theorem Device.beginWriteback_ordered {d : Device} {purpose : WritebackPurpose}
    (h : Engine.OrderedFree { d.engine with access := none }) (closed : d.engine.bufferOpen = false)
    (idle : purpose = .final → d.engine.access = none) (status : CompletionStatus) (c : Descriptor) :
    (d.beginWriteback purpose status c).engine.OrderedFree := by
  unfold Device.beginWriteback
  split
  · exact h.beginWriteback closed ..
  · split
    · next final =>
      have same : d.engine = { d.engine with access := none } := by rw [← idle final]
      rw [← same] at h
      exact h.of_fields rfl
    · exact d.engineError_ordered ..

/-- The engine with its buffer closed and no access in flight. -/
theorem Engine.OrderedFree.close {e : Engine} (h : e.OrderedFree) :
    Engine.OrderedFree { e with bufferOpen := false, access := none } :=
  ⟨fun k => by simp at k, fun _ _ _ k => by simp at k, fun _ _ _ _ _ k => by simp at k, fun _ _ _ k => by simp at k, h.flushing,
    h.disabled, fun k => by simp at k⟩

theorem Device.closeBuffer_ordered {d : Device} (h : d.engine.OrderedFree) (status : CompletionStatus) :
    (d.closeBuffer status).engine.OrderedFree := by
  unfold Device.closeBuffer
  split
  · exact h
  · exact Device.beginWriteback_ordered h.close rfl (fun k => by simp at k) ..

/-- A pending flush may be cleared. -/
theorem Engine.OrderedFree.clearFlush {e : Engine} (h : e.OrderedFree) : Engine.OrderedFree { e with flush := none } :=
  ⟨h.buffer, h.writing, h.closing, h.rereading, fun _ k => by simp at k, h.disabled, h.held⟩

theorem Device.flush_ordered {d : Device} (h : d.engine.OrderedFree) : d.flush.engine.OrderedFree := by
  simp only [Device.flush]
  split
  · next moving =>
    split
    · repeat' split
      · exact Device.closeBuffer_ordered h.clearFlush _
      all_goals exact h.clearFlush
    · next some_ =>
      refine ⟨h.buffer, h.writing, h.closing, h.rereading, fun n k => ?_, h.disabled, h.held⟩
      obtain rfl : d.engine.fifo.length = n := by simpa using k
      exact ⟨moving, List.length_pos_of_ne_nil some_, Nat.le_refl _⟩
  · exact h

/-- A START leaves FETCHING, with the buffer closed and the flush cleared (R174). -/
theorem Device.takeStart_ordered (d : Device) (address : Word) : (d.takeStart address).engine.OrderedFree := by
  have begun : Engine.OrderedFree { d.engine with
      error := none, errorAddress := 0, flush := none, access := none, bufferOpen := false,
      current := some (freshDescriptor address), state := .fetching } :=
    ⟨fun k => by simp at k, fun _ _ _ k => by simp at k, fun _ _ _ _ _ k => by simp at k, fun _ _ _ k => by simp at k,
      fun _ k => by simp at k, fun k => by simp at k, fun k => by simp at k⟩
  unfold Device.takeStart
  split
  · exact Device.beginWriteback_ordered begun rfl (fun k => by simp at k) ..
  · exact Device.beginFetch_ordered begun

theorem Device.takeEnable_ordered {d : Device} (h : d.engine.OrderedFree) : d.takeEnable.engine.OrderedFree := by
  simp only [Device.takeEnable, Device.onEngine_engine]
  split
  · next off =>
    refine ⟨fun k => ?_, h.writing, h.closing, fun a b g k => ?_, fun n k => ?_, fun k => by simp at k, h.held⟩
    · exact absurd (off.symm.trans (h.buffer k).1) (by simp)
    · exact absurd (off.symm.trans (h.rereading a b g k)) (by simp)
    · rcases (h.flushing n k).1 with moving | moving <;> exact absurd (off.symm.trans moving) (by simp)
  · exact h

/-- A DISABLED engine with nothing held, open, in flight or pending is in order. -/
theorem Engine.OrderedFree.of_disabled {e : Engine} (fifo : e.fifo = []) (closed : e.bufferOpen = false) (idle : e.access = none)
    (flush : e.flush = none) : e.OrderedFree :=
  ⟨fun k => by simp [closed] at k, fun _ _ _ k => by simp [idle] at k, fun _ _ _ _ _ k => by simp [idle] at k,
    fun _ _ _ k => by simp [idle] at k, fun _ k => by simp [flush] at k, fun _ => fifo, fun k => by simp at k⟩

theorem Device.takeDisable_ordered {d : Device} (h : d.engine.OrderedFree) : d.takeDisable.engine.OrderedFree := by
  simp only [Device.takeDisable]
  split
  · exact h
  · repeat' split
    · exact Device.beginWriteback_ordered (.of_disabled rfl rfl rfl rfl) rfl (fun _ => rfl) ..
    all_goals exact .of_disabled rfl rfl rfl rfl

theorem Device.takeEngineReset_ordered (d : Device) : d.takeEngineReset.engine.Ordered :=
  have h := Engine.Ordered.reset
  ⟨h.buffer, h.writing, h.closing, h.rereading, h.flushing, h.disabled, h.held⟩

/-- After a write's end a held action is taken, or a write is again in flight: the order is whole again (R171). -/
theorem Device.takeHeld_ordered {d : Device} (h : d.engine.OrderedFree) : d.takeHeld.engine.Ordered := by
  have free : (d.onEngine fun e => { e with held := none }).engine.OrderedFree := h
  simp only [Device.takeHeld]
  split
  · next busy => exact h.ordered fun _ => busy
  split
  · next none_ => exact h.ordered_of_none none_
  · exact (Device.takeStart_ordered _ _).ordered_of_none (by simp)
  · exact (Device.takeEnable_ordered free).ordered_of_none (by simp)
  · exact (Device.takeDisable_ordered free).ordered_of_none (by simp)
  · exact Device.takeEngineReset_ordered _

/-- A produced record joins at the back of the FIFO, or nothing of the order's fields changes. -/
theorem Engine.Ordered.join {e : Engine} (h : e.Ordered) (r : Record) : (e.join r).Ordered := by
  rcases e.join_cases r with ⟨joined, -⟩ | ⟨joined, on, -⟩ <;> rw [joined]
  · exact ⟨h.buffer, h.writing, h.closing, h.rereading, h.flushing, h.disabled, h.held⟩
  · refine ⟨h.buffer, fun a b l k => ⟨(h.writing a b l k).1, by simp⟩, h.closing, h.rereading, fun n k => ?_,
      fun k => absurd k on, h.held⟩
    obtain ⟨moving, pos, le⟩ := h.flushing n k
    exact ⟨moving, pos, by simp; omega⟩

/-- While a write is in flight a flush closes no buffer (R178). -/
theorem Device.flush_access {d : Device} (h : d.engine.Ordered) (busy : d.engine.writeInFlight = true) :
    d.flush.engine.access = d.engine.access := by
  have closes : ¬ (d.engine.fifo = [] ∧ d.engine.bufferOpen = true) := by
    rintro ⟨empty, opened⟩
    rcases d.engine.writeInFlight_iff.1 busy with ⟨a, b, l, access⟩ | ⟨u, x, a, b, l, access⟩
    · exact (h.writing a b l access).2 empty
    · exact absurd (h.closing u x a b l access) (by simp [opened])
  simp only [Device.flush]
  repeat' split
  · exact absurd ⟨by assumption, by assumption⟩ closes
  all_goals rfl

theorem Device.flush_keeps_ordered {d : Device} (h : d.engine.Ordered) : d.flush.engine.Ordered := by
  refine (Device.flush_ordered h.free).ordered fun held => ?_
  have busy : d.engine.writeInFlight = true := h.held (by simpa using held)
  rwa [Engine.writeInFlight, Device.flush_access h busy]

/-! ## The engine's events keep the books and the order -/

theorem Device.beginRecordWrite_balanced {d : Device} (h : d.engine.Balanced) : d.beginRecordWrite.engine.Balanced := by
  simp only [Device.beginRecordWrite]
  repeat' split
  all_goals exact h.of_ledger (by simp)

theorem Device.beginRecordWrite_ordered {d : Device} (h : d.engine.Ordered) : d.beginRecordWrite.engine.Ordered := by
  unfold Device.beginRecordWrite
  split
  · next r rest c running opened idle fifo current =>
    have free : d.engine.held = none := h.held_none (by simp [Engine.writeInFlight, idle])
    split
    · simp only []
      split
      · refine Engine.OrderedFree.ordered_of_none ?_ free
        exact ⟨h.buffer, fun _ _ _ _ => ⟨opened, by simp [fifo]⟩, fun _ _ _ _ _ k => by simp at k, fun _ _ _ k => by simp at k,
          h.flushing, h.disabled, fun k => by simp at k⟩
      · exact (Device.reportError_ordered (d.engineError_ordered ..) rfl ..).ordered_of_none (by simp [free])
    · exact h
  · exact h

theorem Device.recordLanded_balanced {d : Device} (h : d.engine.Balanced) {r : Record} {rest : List Record} (c : Descriptor)
    (fifo : d.engine.fifo = r :: rest) : (d.recordLanded r rest c).engine.Balanced := by
  simp only [Device.recordLanded]
  repeat' split
  all_goals exact h.landed (by simpa using fifo) (by simp)

theorem Device.recordLanded_ordered {d : Device} (h : d.engine.OrderedFree) {r : Record} {rest : List Record} (c : Descriptor)
    (fifo : d.engine.fifo = r :: rest) (opened : d.engine.bufferOpen = true) :
    (d.recordLanded r rest c).engine.OrderedFree := by
  have running : d.engine.state = .running := (h.buffer opened).1
  have landed : Engine.OrderedFree { d.engine with
      access := none, fifo := rest, written := d.engine.written + 1, current := some (c.landed r),
      flush := if d.engine.flush.map (· - 1) = some 0 then none else d.engine.flush.map (· - 1) } := by
    refine ⟨fun _ => ⟨running, rfl⟩, fun _ _ _ k => by simp at k, fun _ _ _ _ _ k => by simp at k,
      fun _ _ _ k => by simp at k, fun n k => ?_, fun k => absurd (running.symm.trans k) (by simp), fun k => by simp at k⟩
    obtain ⟨counted, m, pending, rfl⟩ : d.engine.flush.map (· - 1) ≠ some 0 ∧ ∃ m, d.engine.flush = some m ∧ m - 1 = n := by
      have k' : (if d.engine.flush.map (· - 1) = some 0 then none else d.engine.flush.map (· - 1)) = some n := k
      split at k'
      · simp at k'
      · next some_ => exact ⟨some_, by simpa using k'⟩
    obtain ⟨-, -, le⟩ := h.flushing m pending
    simp only [pending, Option.map_some, ne_eq, Option.some.injEq] at counted
    have length : d.engine.fifo.length = rest.length + 1 := by rw [fifo, List.length_cons]
    have le' : m ≤ d.engine.fifo.length := le
    exact ⟨.inr running, Nat.pos_of_ne_zero counted, show m - 1 ≤ rest.length by omega⟩
  simp only [Device.recordLanded]
  generalize (if d.engine.flush.map (· - 1) = some 0 then none else d.engine.flush.map (· - 1)) = left at landed ⊢
  repeat' split
  · exact Device.closeBuffer_ordered landed _
  · exact Device.closeBuffer_ordered landed _
  · exact landed

theorem Device.endRecordWrite_balanced {d : Device} (h : d.engine.Balanced) (ok : Bool) :
    (d.endRecordWrite ok).engine.Balanced := by
  unfold Device.endRecordWrite
  split
  · next address _ _ r rest c _ fifo _ =>
    refine Device.takeHeld_balanced ?_
    split
    · exact Device.recordLanded_balanced h c fifo
    · exact h.of_ledger (by simp)
  · exact h

theorem Device.endRecordWrite_ordered {d : Device} (h : d.engine.Ordered) (ok : Bool) :
    (d.endRecordWrite ok).engine.Ordered := by
  unfold Device.endRecordWrite
  split
  · next address bus bytes r rest c access fifo _ =>
    refine Device.takeHeld_ordered ?_
    split
    · exact Device.recordLanded_ordered h.free c fifo (h.writing _ _ _ access).1
    · exact Device.reportError_ordered (d.engineError_ordered ..) rfl ..
  · exact h

theorem Device.followChain_balanced {d : Device} (h : d.engine.Balanced) (descriptor : Word) :
    (d.followChain descriptor).engine.Balanced := by
  simp only [Device.followChain]
  repeat' split
  all_goals exact h.of_ledger (by simp)

theorem Device.followChain_ordered {d : Device} (h : d.engine.OrderedFree) (closed : d.engine.bufferOpen = false)
    (descriptor : Word) : (d.followChain descriptor).engine.OrderedFree := by
  simp only [Device.followChain]
  repeat' split
  · exact h.endAccess.of_fields rfl
  · exact ⟨fun k => by simp [closed] at k, fun _ _ _ k => by simp at k, fun _ _ _ _ _ k => by simp at k,
      fun _ _ _ k => by simp at k, fun _ k => by simp at k, fun k => by simp at k, fun k => by simp at k⟩
  · refine Device.beginFetch_ordered ?_
    exact ⟨fun k => by simp [closed] at k, fun _ _ _ k => by simp at k, fun _ _ _ _ _ k => by simp at k,
      fun _ _ _ k => by simp at k, fun n k => ⟨.inl rfl, (h.flushing n k).2⟩, fun k => by simp at k, fun k => by simp at k⟩

theorem Device.endWriteback_balanced {d : Device} (h : d.engine.Balanced) (ok : Bool) : (d.endWriteback ok).engine.Balanced := by
  unfold Device.endWriteback
  split
  · next purpose descriptor address _ _ _ =>
    refine Device.takeHeld_balanced ?_
    unfold Device.writebackEnded
    split
    · exact Device.followChain_balanced h descriptor
    all_goals exact h.of_ledger (by simp)
  · exact h

theorem Device.endWriteback_ordered {d : Device} (h : d.engine.Ordered) (ok : Bool) : (d.endWriteback ok).engine.Ordered := by
  unfold Device.endWriteback
  split
  · next purpose descriptor address _ _ access =>
    refine Device.takeHeld_ordered ?_
    unfold Device.writebackEnded
    split
    · exact Device.followChain_ordered h.free (h.closing _ _ _ _ _ access) descriptor
    · exact d.engineError_ordered ..
    · exact h.free.endAccess
    · exact h.free.endAccess.of_fields rfl
    · exact Device.beginFetch_ordered (h.free.endAccess.of_fields rfl)
    · exact d.engineError_ordered ..
    · exact h.free.endAccess
  · exact h

theorem Device.endDescriptorRead_balanced {d : Device} (h : d.engine.Balanced) (answer : Option (BitVec 128)) :
    (d.endDescriptorRead answer).engine.Balanced := by
  simp only [Device.endDescriptorRead]
  repeat' split
  all_goals exact h.of_ledger (by simp)

theorem Device.endDescriptorRead_ordered {d : Device} (h : d.engine.Ordered) (answer : Option (BitVec 128)) :
    (d.endDescriptorRead answer).engine.Ordered := by
  unfold Device.endDescriptorRead
  split
  · next address bus big access =>
    have free : d.engine.held = none := h.held_none (by simp [Engine.writeInFlight, access])
    split
    · exact (d.engineError_ordered ..).ordered_of_none (by simp [free])
    · simp only []
      split
      · exact (Device.reportError_ordered (d.engineError_ordered ..) rfl ..).ordered_of_none (by simp [free])
      · refine Engine.OrderedFree.ordered_of_none ?_ free
        exact ⟨fun _ => ⟨rfl, rfl⟩, fun _ _ _ k => by simp at k, fun _ _ _ _ _ k => by simp at k, fun _ _ _ k => by simp at k,
          fun n k => ⟨.inr rfl, (h.flushing n k).2⟩, fun k => by simp at k, fun k => by simp at k⟩
  · exact h

theorem Device.endReread_balanced {d : Device} (h : d.engine.Balanced) (answer : Option Word) :
    (d.endReread answer).engine.Balanced := by
  simp only [Device.endReread]
  repeat' split
  all_goals exact h.of_ledger (by simp)

theorem Device.endReread_ordered {d : Device} (h : d.engine.Ordered) (answer : Option Word) :
    (d.endReread answer).engine.Ordered := by
  unfold Device.endReread
  split
  · next a b big access =>
    have free : d.engine.held = none := h.held_none (by simp [Engine.writeInFlight, access])
    have starved : d.engine.state = .starved := h.rereading _ _ _ access
    split
    · exact (d.engineError_ordered ..).ordered_of_none (by simp [free])
    · simp only []
      split
      · exact h.free.endAccess.ordered_of_none free
      · refine Engine.OrderedFree.ordered_of_none (Device.beginFetch_ordered ?_) (by simp [free])
        refine ⟨fun k => ?_, fun _ _ _ k => by simp at k, fun _ _ _ _ _ k => by simp at k, fun _ _ _ k => by simp at k,
          fun n k => ⟨.inl rfl, (h.flushing n k).2⟩, fun k => by simp at k, fun k => by simp at k⟩
        exact absurd (starved.symm.trans (h.buffer k).1) (by simp)
  · exact h

/-! ## The actions of the control word keep the books and the order (R169 to R171) -/

/-- A held action waits for the write in flight. -/
theorem Engine.OrderedFree.hold {e : Engine} (h : e.OrderedFree) (busy : e.writeInFlight = true) (a : Option HeldAction) :
    Engine.Ordered { e with held := a } :=
  ⟨h.buffer, h.writing, h.closing, h.rereading, h.flushing, h.disabled, fun _ => busy⟩

theorem Device.storeSettings_ordered {d : Device} (h : d.engine.Ordered) (big flush : Bool) :
    (d.storeSettings big flush).engine.Ordered :=
  ⟨h.buffer, h.writing, h.closing, h.rereading, h.flushing, h.disabled, h.held⟩

theorem Device.enableAction_balanced {d : Device} (h : d.engine.Balanced) : d.enableAction.engine.Balanced := by
  unfold Device.enableAction
  repeat' split
  all_goals exact h.of_ledger (by simp)

theorem Device.enableAction_ordered {d : Device} (h : d.engine.Ordered) : d.enableAction.engine.Ordered := by
  unfold Device.enableAction
  split
  · next busy =>
    split
    · exact h.free.hold busy _
    · exact h
  · next idle => exact (Device.takeEnable_ordered h.free).ordered_of_none (by simp [h.held_none (by simpa using idle)])

theorem Device.disableAction_balanced {d : Device} (h : d.engine.Balanced) : d.disableAction.engine.Balanced := by
  unfold Device.disableAction
  repeat' split
  · exact h
  · exact h.of_ledger (by simp)
  · exact Device.takeDisable_balanced h

theorem Device.disableAction_ordered {d : Device} (h : d.engine.Ordered) : d.disableAction.engine.Ordered := by
  unfold Device.disableAction
  split
  · next busy =>
    split
    · exact h
    · simpa using h.free.hold busy (some .disable)
  · next idle => exact (Device.takeDisable_ordered h.free).ordered_of_none (by simp [h.held_none (by simpa using idle)])

theorem Device.engineResetAction_balanced {d : Device} (h : d.engine.Balanced) : d.engineResetAction.engine.Balanced := by
  unfold Device.engineResetAction
  split
  · exact h.of_ledger (by simp)
  · exact Engine.Balanced.reset.of_ledger ⟨rfl, rfl, rfl, rfl⟩

theorem Device.engineResetAction_ordered {d : Device} (h : d.engine.Ordered) : d.engineResetAction.engine.Ordered := by
  unfold Device.engineResetAction
  split
  · next busy => simpa using h.free.hold busy (some .engineReset)
  · exact d.takeEngineReset_ordered

end Sys2Proof.Machine
end

section
/-! PROOFS. The statements about the record output engine's operations and events: O57, O58, O59 and O60. -/

namespace Sys2Proof.Machine

/-! ## Equations of the engine's operations, by the branches of their definitions (R171 to R180) -/

theorem Device.flush_eq (d : Device) :
    d.flush =
      if d.engine.state = .fetching ∨ d.engine.state = .running then
        (if d.engine.fifo ≠ [] then { d with engine := { d.engine with flush := some d.engine.fifo.length } }
         else match d.engine.bufferOpen, d.engine.current with
           | true, some c =>
             if c.written = 0 then { d with engine := { d.engine with flush := none } }
             else Device.closeBuffer { d with engine := { d.engine with flush := none } } .partialFill
           | _, _ => { d with engine := { d.engine with flush := none } })
      else d := by
  simp only [Device.flush, Nat.pos_iff_ne_zero, ne_eq, ite_not]
  rfl

theorem Device.reportError_eq (d : Device) (c : Descriptor) (code : EngineError) :
    d.reportError c code =
      match d.engine.translate c.writeback with
      | some bus =>
        if c.writeback.toNat % 8 = 0 then
          { d with engine := { d.engine with access := some (.writeback .errorReport c.address c.writeback bus
              (completionBytes d.engine.bigEndian c.written .error (some code) c.lastSeq)) } }
        else d
      | none => d := by
  unfold Device.reportError
  by_cases aligned : c.writeback.toNat % 8 = 0
  · simp only [aligned, if_true]
    cases d.engine.translate c.writeback <;> rfl
  · simp only [aligned, if_false]
    cases d.engine.translate c.writeback <;> rfl

theorem Device.beginWriteback_of_translated {d : Device} {c : Descriptor} {bus : Word} (h : d.engine.translate c.writeback = some bus)
    (purpose : WritebackPurpose) (status : CompletionStatus) :
    d.beginWriteback purpose status c =
      { d with engine := { d.engine with access := some (.writeback purpose c.address c.writeback bus
          (completionBytes d.engine.bigEndian c.written status none c.lastSeq)) } } := by
  unfold Device.beginWriteback
  rw [h]
  rfl

theorem Device.beginWriteback_of_untranslated {d : Device} {c : Descriptor} (h : d.engine.translate c.writeback = none)
    (purpose : WritebackPurpose) (status : CompletionStatus) :
    d.beginWriteback purpose status c =
      if purpose = .final then
        { d with
          engine := { d.engine with error := some .address, errorAddress := c.writeback }
          notices := { d.notices with flags := d.notices.flags ||| 0x100 } }
      else d.engineError .address c.writeback := by
  unfold Device.beginWriteback
  rw [h]
  rfl

theorem Device.closeBuffer_of_current {d : Device} {c : Descriptor} (h : d.engine.current = some c) (status : CompletionStatus) :
    d.closeBuffer status =
      Device.beginWriteback { d with engine := { d.engine with bufferOpen := false } } .followChain status c := by
  unfold Device.closeBuffer
  rw [h]
  rfl

theorem Device.beginFetch_of_current {d : Device} {c : Descriptor} (h : d.engine.current = some c) :
    d.beginFetch =
      if c.address.toNat % 16 ≠ 0 then d.engineError .align c.address
      else match d.engine.translate c.address with
        | none => d.engineError .address c.address
        | some bus => { d with engine := { d.engine with access := some (.descriptorRead c.address bus d.engine.bigEndian) } } := by
  unfold Device.beginFetch
  rw [h]
  rfl

theorem Device.takeHeld_of_busy {d : Device} (busy : d.engine.writeInFlight = true) : d.takeHeld = d := if_pos busy

/-- With no write in flight the held action, if there is one, is taken (R171). -/
theorem Device.takeHeld_of_idle {d : Device} (idle : d.engine.writeInFlight = false) :
    ∀ action, d.engine.held = action →
      d.takeHeld =
        let free : Device := { d with engine := { d.engine with held := none } }
        match action with
        | none => d
        | some (.start a) => (free.takeStart a).setStatus 0x40 .done .nothing
        | some .enable => free.takeEnable
        | some .disable => free.takeDisable
        | some .engineReset => free.takeEngineReset := by
  rintro _ rfl
  unfold Device.takeHeld
  rw [if_neg (by simp [idle])]
  rfl

/-! ## The actions of the control word, by whether a write is in flight (R169 to R171) -/

theorem Device.enableAction_of_idle {d : Device} (idle : d.engine.writeInFlight = false) :
    d.enableAction =
      { d with engine := if d.engine.state = .disabled then { d.engine with state := .idle } else d.engine } :=
  if_neg (by simp [idle])

theorem Device.enableAction_of_busy {d : Device} (busy : d.engine.writeInFlight = true) :
    d.enableAction =
      { d with engine := { d.engine with held := if d.engine.held = none then some .enable else d.engine.held } } := by
  unfold Device.enableAction
  rw [if_pos busy]
  split <;> rfl

theorem Device.engineResetAction_of_idle {d : Device} (idle : d.engine.writeInFlight = false) :
    d.engineResetAction =
      { d with engine := { Engine.reset with
          window0 := d.engine.window0, window1 := d.engine.window1, bigEndian := d.engine.bigEndian,
          flushOnLost := d.engine.flushOnLost } } :=
  if_neg (by simp [idle])

/-- The part with a held START's command status replaced (R171, R188). -/
def Device.replacesStart (d : Device) : Device :=
  if d.engine.startHeld then { d with sbi := { d.sbi with status := ⟨0x40, .refused, .state⟩ } } else d

/-- A held START that is replaced changes the command status alone, whatever becomes of the engine. -/
theorem Device.dropHeldStart_onEngine (d : Device) {e : Engine} (same : e.held = d.engine.held) (f : Engine → Engine) :
    (Device.dropHeldStart { d with engine := e }).onEngine f = { d.replacesStart with engine := f e } := by
  have held : e.startHeld = d.engine.startHeld := by rw [Engine.startHeld, same, Engine.startHeld]
  unfold Device.dropHeldStart Device.replacesStart
  rw [held]
  split <;> rfl

theorem Device.engineResetAction_of_busy {d : Device} (busy : d.engine.writeInFlight = true) :
    d.engineResetAction = d.dropHeldStart.onEngine fun e => { e with held := some .engineReset } :=
  if_pos busy

/-- DISABLE taken (R170): the records held count as dropped, and an open buffer that holds a record gets its final writeback. -/
theorem Device.takeDisable_eq (d : Device) :
    d.takeDisable =
      let off : Device := { d with engine := { d.engine with
        state := .disabled, access := none, bufferOpen := false, fifo := [], flush := none,
        dropped := d.engine.dropped + BitVec.ofNat 32 d.engine.fifo.length } }
      if d.engine.state = .disabled then d
      else match d.engine.bufferOpen, d.engine.current with
        | true, some c => if c.written = 0 then off else off.beginWriteback .final .partialFill c
        | _, _ => off := by
  simp only [Device.takeDisable, Nat.pos_iff_ne_zero, ne_eq, ite_not]
  rfl

theorem Device.disableAction_of_idle {d : Device} (idle : d.engine.writeInFlight = false) :
    d.disableAction =
      let off : Device := { d with engine := { d.engine with
        state := .disabled, access := none, bufferOpen := false, fifo := [], flush := none,
        dropped := d.engine.dropped + BitVec.ofNat 32 d.engine.fifo.length } }
      if d.engine.state = .disabled then d
      else match d.engine.bufferOpen, d.engine.current with
        | true, some c => if c.written = 0 then off else off.beginWriteback .final .partialFill c
        | _, _ => off :=
  (if_neg (by simp [idle])).trans d.takeDisable_eq

theorem Device.disableAction_of_busy {d : Device} (busy : d.engine.writeInFlight = true) :
    d.disableAction =
      if d.engine.held = some .engineReset then d
      else d.dropHeldStart.onEngine fun e => { e with held := some .disable } :=
  if_pos busy

/-! ## ROE_START, ROE_FLUSH and ROE_RESUME as commands (R171, R174, R178, R179, R188) -/

theorem Device.command_of_held {d d' : Device} {judge : Device → CommandResult} (code : Byte)
    (hfree : d.engine.startHeld = false) (h : judge d = .held d') : d.command code judge = d'.setStatus code .pending .nothing := by
  simp [Device.command, hfree, h]

theorem Device.command_start {d : Device} (hfree : d.engine.startHeld = false) :
    d.command 0x40 Device.judgeStart =
      if d.engine.held ≠ none then d.setStatus 0x40 .refused .busy
      else if d.engine.state = .disabled then d.setStatus 0x40 .refused .state
      else if d.engine.writeInFlight then
        Device.setStatus { d with engine := { d.engine with held := some (.start d.sbi.parameters.p0) } } 0x40 .pending .nothing
      else (d.takeStart d.sbi.parameters.p0).setStatus 0x40 .done .nothing := by
  have judged : d.judgeStart =
      if d.engine.held ≠ none then .refused .busy
      else if d.engine.state = .disabled then .refused .state
      else if d.engine.writeInFlight then
        .held { d with engine := { d.engine with held := some (.start d.sbi.parameters.p0) } }
      else .taken (d.takeStart d.sbi.parameters.p0) := by
    simp only [Device.judgeStart, Option.isSome_iff_ne_none]
    rfl
  split_ifs at judged ⊢
  · exact Device.command_of_refused _ hfree judged
  · exact Device.command_of_refused _ hfree judged
  · exact Device.command_of_held _ hfree judged
  · exact Device.command_of_taken _ hfree judged

theorem Device.command_flush {d : Device} (hfree : d.engine.startHeld = false) :
    d.command 0x41 Device.judgeFlush =
      if d.engine.state = .disabled ∨ d.engine.state = .halted then d.setStatus 0x41 .refused .state
      else d.flush.setStatus 0x41 .done .nothing := by
  split
  · next stopped => exact Device.command_of_refused _ hfree (if_pos stopped)
  · next moving => exact Device.command_of_taken _ hfree (if_neg moving)

theorem Device.command_resume {d : Device} (hfree : d.engine.startHeld = false) :
    d.command 0x42 Device.judgeResume =
      if d.engine.held ≠ none ∨ (d.engine.state = .starved ∧ d.engine.access ≠ none) then d.setStatus 0x42 .refused .busy
      else if d.engine.state ≠ .starved then d.setStatus 0x42 .refused .state
      else d.takeResume.setStatus 0x42 .done .nothing := by
  have judged : d.judgeResume =
      if d.engine.held ≠ none ∨ (d.engine.state = .starved ∧ d.engine.access ≠ none) then .refused .busy
      else if d.engine.state ≠ .starved then .refused .state
      else .taken d.takeResume := by
    simp only [Device.judgeResume, Option.isSome_iff_ne_none]
    grind
  split_ifs at judged ⊢
  · exact Device.command_of_refused _ hfree judged
  · exact Device.command_of_refused _ hfree judged
  · exact Device.command_of_taken _ hfree judged

end Sys2Proof.Machine

namespace Sys2Proof

open Machine

/-- Settles O58: the operations by the branches of their definitions. -/
theorem buffersCloseAndErrorsHalt : Obligations.BuffersCloseAndErrorsHalt := by
  refine ⟨?_, ?_⟩
  · intro d e is
    exact ⟨d.flush_eq, fun c status h => Device.closeBuffer_of_current h status,
      fun purpose status c bus h => Device.beginWriteback_of_translated h purpose status,
      d.reportError_eq, fun purpose status c h => Device.beginWriteback_of_untranslated h purpose status,
      fun _ _ => rfl, fun c h => Device.beginFetch_of_current h⟩
  · intro d e free
    exact ⟨Device.takeHeld_of_busy, fun idle => Device.takeHeld_of_idle idle none,
      fun idle a => Device.takeHeld_of_idle idle (some (.start a)), fun idle => Device.takeHeld_of_idle idle (some .enable),
      fun idle => Device.takeHeld_of_idle idle (some .disable), fun idle => Device.takeHeld_of_idle idle (some .engineReset)⟩

/-- Settles O57: each action by whether a write is in flight, each command by its block's judgement. -/
theorem engineActionsTaken : Obligations.EngineActionsTaken := by
  refine ⟨?_, ?_⟩
  · intro d q big flush e is dropped
    refine ⟨rfl, fun idle => ⟨?_, ?_, ?_⟩, fun busy => ⟨?_, ?_, ?_⟩⟩
    all_goals refine congrArg (fun d => Host.Outcome.next (State.mk d q)) ?_
    · exact Device.enableAction_of_idle (d := d.storeSettings big flush) idle
    · exact Device.engineResetAction_of_idle (d := d.storeSettings big flush) idle
    · exact Device.disableAction_of_idle (d := d.storeSettings big flush) idle
    · exact Device.enableAction_of_busy (d := d.storeSettings big flush) busy
    · refine (Device.disableAction_of_busy (d := d.storeSettings big flush) busy).trans (if_congr Iff.rfl rfl ?_)
      exact Device.dropHeldStart_onEngine d (e := e) rfl _
    · refine (Device.engineResetAction_of_busy (d := d.storeSettings big flush) busy).trans ?_
      exact Device.dropHeldStart_onEngine d (e := e) rfl _
  · intro d q free e address is begun
    refine ⟨?_, ?_, ?_⟩ <;> refine congrArg (fun d => Host.Outcome.next (State.mk d q)) ?_
    · exact Device.command_start free
    · exact Device.command_flush free
    · exact Device.command_resume free

end Sys2Proof
end

section
/-! PROOFS. The record output engine's own events (R170 to R180): O59 and O60. -/

namespace Sys2Proof.Machine

/-! ## A record write begins (R176) -/

/-- A write begins in RUNNING, with a buffer open and not full, a record held and no access in flight. -/
structure Engine.ReadyToWrite (e : Engine) (r : Record) (c : Descriptor) : Prop where
  fifo : ∃ rest, e.fifo = r :: rest
  current : e.current = some c
  running : e.state = .running
  opened : e.bufferOpen = true
  idle : e.access = none
  room : c.written < c.capacity.toNat

theorem Device.beginRecordWrite_of_translated {d : Device} {r : Record} {c : Descriptor} (ready : d.engine.ReadyToWrite r c)
    {bus : Word} (h : d.engine.translate (c.buffer + BitVec.ofNat 32 (32 * c.written)) = some bus) :
    d.beginRecordWrite = { d with engine := { d.engine with
      access := some (.recordWrite (c.buffer + BitVec.ofNat 32 (32 * c.written)) bus (r.bytes d.engine.bigEndian)) } } := by
  obtain ⟨⟨rest, fifo⟩, current, running, opened, idle, room⟩ := ready
  simp only [Device.beginRecordWrite, fifo, current, running, opened, idle, room, h, if_true, Device.onEngine]

theorem Device.beginRecordWrite_of_untranslated {d : Device} {r : Record} {c : Descriptor} (ready : d.engine.ReadyToWrite r c)
    (h : d.engine.translate (c.buffer + BitVec.ofNat 32 (32 * c.written)) = none) :
    d.beginRecordWrite =
      (d.engineError .address (c.buffer + BitVec.ofNat 32 (32 * c.written))).reportError c .address := by
  obtain ⟨⟨rest, fifo⟩, current, running, opened, idle, room⟩ := ready
  simp only [Device.beginRecordWrite, fifo, current, running, opened, idle, room, h, if_true]

theorem Device.beginRecordWrite_of_not_ready {d : Device}
    (h : ∀ r rest c, d.engine.fifo = r :: rest → d.engine.current = some c →
      ¬ (d.engine.state = .running ∧ d.engine.bufferOpen = true ∧ d.engine.access = none ∧ c.written < c.capacity.toNat)) :
    d.beginRecordWrite = d := by
  unfold Device.beginRecordWrite
  split
  · next r rest c running opened idle fifo current =>
    exact if_neg fun room => h r rest c fifo current ⟨running, opened, idle, room⟩
  · rfl

/-! ## A record write ends (R176, R178) -/

theorem Device.endRecordWrite_of_access {d : Device} {r : Record} {rest : List Record} {c : Descriptor} {address bus : Word}
    {bytes : List Byte} (fifo : d.engine.fifo = r :: rest) (current : d.engine.current = some c)
    (access : d.engine.access = some (.recordWrite address bus bytes)) (ok : Bool) :
    d.endRecordWrite ok =
      (if ok then d.recordLanded r rest c else (d.engineError .bus address).reportError c .bus).takeHeld := by
  simp only [Device.endRecordWrite, fifo, current, access]

/-- A pending flush that counts at least one record has counted its last exactly where it counts one. -/
theorem flush_counted {flush : Option Nat} (pos : ∀ n, flush = some n → 0 < n) :
    flush.map (· - 1) = some 0 ↔ flush = some 1 := by
  cases flush with
  | none => simp
  | some n =>
    have := pos n rfl
    simp only [Option.map_some, Option.some.injEq]
    omega

theorem Device.recordLanded_eq {d : Device} (r : Record) (rest : List Record) (c : Descriptor)
    (pos : ∀ n, d.engine.flush = some n → 0 < n) :
    d.recordLanded r rest c =
      let last := decide (d.engine.flush = some 1)
      let landed : Device := { d with engine := { d.engine with
        access := none, fifo := rest, written := d.engine.written + 1,
        current := some { c with written := c.written + 1, lastSeq := r.seq },
        flush := if last then none else d.engine.flush.map fun n => n - 1 } }
      if c.written + 1 = c.capacity.toNat then landed.closeBuffer .complete
      else if last then landed.closeBuffer .partialFill else landed := by
  simp only [Device.recordLanded, flush_counted pos, decide_eq_true_eq]
  rfl

/-! ## Events with nothing of their kind in flight (R171, R175, R176) -/

theorem Device.endRecordWrite_of_no_access {d : Device} (h : ∀ a b l, d.engine.access ≠ some (.recordWrite a b l)) (ok : Bool) :
    d.endRecordWrite ok = d := by
  unfold Device.endRecordWrite
  split
  · next access _ _ => exact absurd access (h _ _ _)
  · rfl

theorem Device.endWriteback_of_no_access {d : Device} (h : ∀ p x a b l, d.engine.access ≠ some (.writeback p x a b l)) (ok : Bool) :
    d.endWriteback ok = d := by
  unfold Device.endWriteback
  split
  · next access => exact absurd access (h _ _ _ _ _)
  · rfl

theorem Device.endDescriptorRead_of_no_access {d : Device} (h : ∀ a b g, d.engine.access ≠ some (.descriptorRead a b g))
    (answer : Option (BitVec 128)) : d.endDescriptorRead answer = d := by
  unfold Device.endDescriptorRead
  split
  · next access => exact absurd access (h _ _ _)
  · rfl

theorem Device.endReread_of_no_access {d : Device} (h : ∀ a b g, d.engine.access ≠ some (.reread a b g)) (answer : Option Word) :
    d.endReread answer = d := by
  unfold Device.endReread
  split
  · next access => exact absurd access (h _ _ _)
  · rfl

/-! ## A completion writeback ends (R170, R174, R177, R180) -/

/-- The part with another engine and some notice flags set. -/
def Device.withEngine (d : Device) (e : Engine) (bits : BitVec 14) : Device :=
  { d with engine := e, notices := { d.notices with flags := d.notices.flags ||| bits } }

theorem Device.withEngine_zero (d : Device) (e : Engine) : d.withEngine e 0 = { d with engine := e } := by
  simp [Device.withEngine]

/-- The chain is followed to the next descriptor, or the engine is STARVED (R177). -/
theorem Device.followChain_eq (d : Device) (x : Word) :
    d.followChain x =
      match d.engine.current with
      | none => d.withEngine { d.engine with access := none, lastDescriptor := x } 0x200
      | some c =>
        if c.next = 0 then
          d.withEngine { d.engine with access := none, lastDescriptor := x, state := .starved, flush := none } 0x600
        else
          (d.withEngine { d.engine with access := none, lastDescriptor := x, state := .fetching,
                                        current := some { c with address := c.next } } 0x200).beginFetch := by
  have both : d.notices.flags ||| Notice.bufferDone.bit ||| Notice.chainEnd.bit = d.notices.flags ||| 0x600 :=
    BitVec.or_assoc ..
  simp only [Device.followChain, Device.withEngine, ← both]
  rfl

theorem Device.writebackEnded_ok (d : Device) (purpose : WritebackPurpose) (x address : Word) :
    d.writebackEnded purpose x address true =
      match purpose, d.engine.current with
      | .followChain, some c =>
        if c.next = 0 then
          d.withEngine { d.engine with access := none, lastDescriptor := x, state := .starved, flush := none } 0x600
        else
          (d.withEngine { d.engine with access := none, lastDescriptor := x, state := .fetching,
                                        current := some { c with address := c.next } } 0x200).beginFetch
      | .followChain, none => d.withEngine { d.engine with access := none, lastDescriptor := x } 0x200
      | .final, _ => d.withEngine { d.engine with access := none } 0x200
      | .beforeFetch, _ => (d.withEngine { d.engine with access := none, lastDescriptor := x } 0).beginFetch
      | .errorReport, _ => d.withEngine { d.engine with access := none } 0 := by
  cases purpose with
  | followChain =>
    refine (Device.followChain_eq d x).trans ?_
    cases d.engine.current <;> rfl
  | final => rfl
  | beforeFetch => exact congrArg Device.beginFetch (d.withEngine_zero _).symm
  | errorReport => exact (d.withEngine_zero _).symm

theorem Device.writebackEnded_failed (d : Device) (purpose : WritebackPurpose) (x address : Word) :
    d.writebackEnded purpose x address false =
      match purpose with
      | .followChain | .beforeFetch => d.engineError .bus address
      | .final => d.withEngine { d.engine with access := none, error := some .bus, errorAddress := address } 0x100
      | .errorReport => d.withEngine { d.engine with access := none } 0 := by
  cases purpose with
  | errorReport => exact (d.withEngine_zero _).symm
  | _ => rfl

/-! ## A descriptor read and a re-read end (R175, R179) -/

theorem Device.endDescriptorRead_of_access {d : Device} {address bus : Word} {big : Bool}
    (access : d.engine.access = some (.descriptorRead address bus big)) (answer : Option (BitVec 128)) :
    d.endDescriptorRead answer =
      match answer with
      | none => d.engineError .bus address
      | some bytes =>
        let c := readDescriptor address big bytes
        match d.engine.descriptorFault c with
        | some (code, at_) => (d.engineError code at_).reportError c code
        | none => { d with engine := { d.engine with access := none, current := some c, bufferOpen := true, state := .running } } := by
  unfold Device.endDescriptorRead
  rw [access]
  rfl

theorem Engine.descriptorFault_eq (e : Engine) (c : Descriptor) :
    e.descriptorFault c =
      let either : Word := if Config.namesWriteback c.buffer c.writeback then c.writeback else c.buffer
      if c.buffer.toNat % 32 ≠ 0 ∨ c.writeback.toNat % 8 ≠ 0 then
        some (.align, if c.buffer.toNat % 32 = 0 then c.writeback else if c.writeback.toNat % 8 = 0 then c.buffer else either)
      else if e.translate c.buffer = none ∨ e.translate c.writeback = none then
        some (.address, if (e.translate c.buffer).isSome then c.writeback
          else if (e.translate c.writeback).isSome then c.buffer else either)
      else if c.capacity.toNat = 0 ∨ 128 < c.capacity.toNat then some (.capacity, c.address)
      else if 4096 < c.buffer.toNat % 4096 + 32 * c.capacity.toNat then some (.pageCross, c.address)
      else none := by
  unfold Engine.descriptorFault Descriptor.misaligned Engine.untranslated
  by_cases hb : c.buffer.toNat % 32 = 0 <;> by_cases hw : c.writeback.toNat % 8 = 0
  · cases tb : e.translate c.buffer <;> cases tw : e.translate c.writeback <;> simp [Descriptor.failing, hb, hw]
  all_goals simp [Descriptor.failing, hb, hw]

/-- A descriptor that was read stops at the first check it fails, or passes them all (R175). -/
theorem Engine.descriptorFault_elim {α : Type} (e : Engine) (c : Descriptor) (stop : EngineError → Word → α) (opens : α) :
    (match e.descriptorFault c with
     | some (code, at_) => stop code at_
     | none => opens) =
      let either : Word := if Config.namesWriteback c.buffer c.writeback then c.writeback else c.buffer
      if c.buffer.toNat % 32 ≠ 0 ∨ c.writeback.toNat % 8 ≠ 0 then
        stop .align (if c.buffer.toNat % 32 = 0 then c.writeback else if c.writeback.toNat % 8 = 0 then c.buffer else either)
      else if e.translate c.buffer = none ∨ e.translate c.writeback = none then
        stop .address (if (e.translate c.buffer).isSome then c.writeback
          else if (e.translate c.writeback).isSome then c.buffer else either)
      else if c.capacity.toNat = 0 ∨ 128 < c.capacity.toNat then stop .capacity c.address
      else if 4096 < c.buffer.toNat % 4096 + 32 * c.capacity.toNat then stop .pageCross c.address
      else opens := by
  rw [Engine.descriptorFault_eq]
  by_cases aligned : c.buffer.toNat % 32 ≠ 0 ∨ c.writeback.toNat % 8 ≠ 0
  · simp only [if_pos aligned]
  by_cases covered : e.translate c.buffer = none ∨ e.translate c.writeback = none
  · simp only [if_neg aligned, if_pos covered]
  by_cases fits : c.capacity.toNat = 0 ∨ 128 < c.capacity.toNat
  · simp only [if_neg aligned, if_neg covered, if_pos fits]
  by_cases page : 4096 < c.buffer.toNat % 4096 + 32 * c.capacity.toNat
  · simp only [if_neg aligned, if_neg covered, if_neg fits, if_pos page]
  · simp only [if_neg aligned, if_neg covered, if_neg fits, if_neg page]

/-- A word is its four bytes one after the other. -/
theorem word_eq_bytes (w : Word) : w.extractLsb' 24 8 ++ w.extractLsb' 16 8 ++ w.extractLsb' 8 8 ++ w.extractLsb' 0 8 = w := by
  rw [BitVec.extractLsb'_append_extractLsb'_eq_extractLsb' (by omega), BitVec.extractLsb'_append_extractLsb'_eq_extractLsb' (by omega),
    BitVec.extractLsb'_append_extractLsb'_eq_extractLsb' (by omega)]
  simp

/-- A field read back in the engine's byte order (R173). -/
theorem readField_eq (big : Bool) (w : Word) :
    readField big w =
      if big then w.extractLsb' 0 8 ++ w.extractLsb' 8 8 ++ w.extractLsb' 16 8 ++ w.extractLsb' 24 8 else w := by
  cases big with
  | true => rfl
  | false => exact word_eq_bytes w

theorem Device.endReread_of_error {d : Device} {address bus : Word} {big : Bool}
    (access : d.engine.access = some (.reread address bus big)) :
    d.endReread none = d.engineError .bus d.engine.lastDescriptor := by
  simp only [Device.endReread, access]

theorem Device.endReread_of_next {d : Device} {address bus bytes next : Word} {big : Bool} {c : Descriptor}
    (access : d.engine.access = some (.reread address bus big)) (current : d.engine.current = some c)
    (read : readField big bytes = next) :
    d.endReread (some bytes) =
      if next = 0 then { d with engine := { d.engine with access := none } }
      else Device.beginFetch { d with engine := { d.engine with
        access := none, state := .fetching, current := some { c with address := next, next := next } } } := by
  subst read
  have same : d.engine.current.getD (freshDescriptor (readField big bytes)) = c := by rw [current, Option.getD_some]
  simp only [Device.endReread, access, Device.onEngine, same]

end Sys2Proof.Machine

namespace Sys2Proof

open Machine

/-- Settles O59: a write begins where all is ready, and its end is the landing or the error, and then a held action. -/
theorem recordWritesBeginAndEnd : Obligations.RecordWritesBeginAndEnd := by
  refine ⟨?_, ?_⟩
  · intro d q r rest c e is fifo current
    refine ⟨?_, fun address bus bytes access => ?_⟩
    · intro address ready
      refine ⟨?_, ?_, fun unready => ?_⟩
      · rintro ⟨running, opened, idle, room⟩ bus translated
        refine congrArg (fun d => Host.Outcome.next (State.mk d q)) ?_
        exact Device.beginRecordWrite_of_translated ⟨⟨rest, fifo⟩, current, running, opened, idle, room⟩ translated
      · rintro ⟨running, opened, idle, room⟩ translated
        refine congrArg (fun d => Host.Outcome.next (State.mk d q)) ?_
        exact Device.beginRecordWrite_of_untranslated ⟨⟨rest, fifo⟩, current, running, opened, idle, room⟩ translated
      · refine congrArg (fun d => Host.Outcome.next (State.mk d q)) (Device.beginRecordWrite_of_not_ready ?_)
        intro r' rest' c' _ current'
        obtain rfl : c = c' := by simpa using current.symm.trans current'
        exact unready
    · intro last landed
      refine ⟨fun pos => ?_, ?_⟩ <;> refine congrArg (fun d => Host.Outcome.next (State.mk d q)) ?_
      · refine (Device.endRecordWrite_of_access fifo current access true).trans (congrArg Device.takeHeld ?_)
        exact Device.recordLanded_eq r rest c pos
      · exact Device.endRecordWrite_of_access fifo current access false
  · intro d q e
    refine ⟨fun nothing => ?_, fun none_ ok => ?_, fun none_ ok => ?_, fun none_ answer => ?_, fun none_ answer => ?_⟩ <;>
      refine congrArg (fun d => Host.Outcome.next (State.mk d q)) ?_
    · refine Device.beginRecordWrite_of_not_ready fun r rest c fifo current => ?_
      rcases nothing with empty | none_
      · exact absurd (fifo.symm.trans empty) (by simp)
      · exact absurd (current.symm.trans none_) (by simp)
    · exact Device.endRecordWrite_of_no_access none_ ok
    · exact Device.endWriteback_of_no_access none_ ok
    · exact Device.endDescriptorRead_of_no_access none_ answer
    · exact Device.endReread_of_no_access none_ answer

/-- Settles O60: the ends of the three accesses, each by what its answer leads to. -/
theorem writebacksAndReadsEnd : Obligations.WritebacksAndReadsEnd := by
  refine ⟨?_, ?_⟩
  · intro d q purpose x address bus bytes e access is
    have ended : ∀ ok, d.endWriteback ok = (d.writebackEnded purpose x address ok).takeHeld := fun ok => by
      simp only [Device.endWriteback, show d.engine.access = _ from access]
    refine ⟨?_, ?_⟩ <;> refine congrArg (fun d => Host.Outcome.next (State.mk d q)) ?_
    · exact (ended true).trans (congrArg Device.takeHeld (d.writebackEnded_ok purpose x address))
    · exact (ended false).trans (congrArg Device.takeHeld (d.writebackEnded_failed purpose x address))
  · intro d q address bus big e is
    refine ⟨fun access => ?_, fun access => ?_⟩
    · have ended := Device.endDescriptorRead_of_access access
      refine ⟨?_, fun bytes => ?_⟩ 
      · exact congrArg (fun d => Host.Outcome.next (State.mk d q)) (ended none)
      · intro c stop either
        refine congrArg (fun d => Host.Outcome.next (State.mk d q)) ((ended (some bytes)).trans ?_)
        exact d.engine.descriptorFault_elim c stop _
    · refine ⟨congrArg (fun d => Host.Outcome.next (State.mk d q)) (Device.endReread_of_error access), fun bytes => ?_⟩
      intro next c current
      refine congrArg (fun d => Host.Outcome.next (State.mk d q)) ?_
      exact Device.endReread_of_next access current (readField_eq big bytes)

end Sys2Proof
end

section
/-! PROOFS. What the events outside the sight maps' cells keep, in one relation from the part before to the part after: the maps, the
engine's books and order, the shown conditions, the ranges and the bearing records. Every shared operation stands in it. -/

namespace Sys2Proof.Machine

/-! ## The shown conditions (R183, R185) -/

/-- A source's notice flag is set. -/
def Device.flagged (d : Device) (source : Notice) : Prop := d.notices.flags.getLsbD source.number = true

/-- The conditions are shown where each condition that holds has its flag set. -/
theorem Device.conditionsShown_iff (d : Device) :
    d.ConditionsShown ↔ ∀ source, d.conditionHolds source = true → d.flagged source := by
  have bit : d.ConditionsShown ↔ ∀ i, (d.conditions &&& ~~~d.notices.flags).getLsbD i = false :=
    BitVec.zero_iff_eq_false
  rw [bit]
  constructor
  · intro h source holds
    have at_ := h source.number
    rw [BitVec.getLsbD_and, d.getLsbD_conditions, holds, BitVec.getLsbD_not] at at_
    simpa [source.number_lt, Device.flagged] using at_
  · intro h i
    by_cases inside : i < 14
    · obtain ⟨source, rfl⟩ := Notice.exists_number_eq inside
      rw [BitVec.getLsbD_and, d.getLsbD_conditions, BitVec.getLsbD_not]
      cases holds : d.conditionHolds source with
      | false => simp
      | true => simp [show d.notices.flags.getLsbD source.number = true from h source holds]
    · exact BitVec.getLsbD_of_ge _ _ (Nat.not_lt.1 inside)

theorem Notice.number_injective : Function.Injective Notice.number := by
  intro a b same
  cases a with
  | portFault p =>
    cases b with
    | portFault q => exact congrArg Notice.portFault (Fin.ext same)
    | _ =>
      have := p.isLt
      simp only [Notice.number] at same
      omega
  | _ =>
    cases b with
    | portFault q =>
      have := q.isLt
      simp only [Notice.number] at same
      omega
    | _ => simp_all [Notice.number]

/-- Raising a source sets its flag and leaves the others. -/
theorem Device.flagged_raise (d : Device) (n source : Notice) : (d.raise n).flagged source ↔ d.flagged source ∨ n = source := by
  simp [Device.flagged, Notices.raise, Notice.getLsbD_bit, Notice.number_injective.eq_iff]

/-- From one part to the next no flag is lost, and a condition that comes to hold has its flag set. -/
structure Device.Shows (d e : Device) : Prop where
  grows : ∀ source, d.flagged source → e.flagged source
  covers : ∀ source, e.conditionHolds source = true → d.conditionHolds source = true ∨ e.flagged source

theorem Device.Shows.refl (d : Device) : d.Shows d := ⟨fun _ h => h, fun _ h => .inl h⟩

theorem Device.Shows.trans {d e f : Device} (h : d.Shows e) (k : e.Shows f) : d.Shows f where
  grows := fun source flag => k.grows source (h.grows source flag)
  covers := fun source holds => by
    rcases k.covers source holds with before | flag
    · exact (h.covers source before).imp id (k.grows source)
    · exact .inr flag

theorem Device.Shows.shown {d e : Device} (h : d.Shows e) (shown : d.ConditionsShown) : e.ConditionsShown := by
  rw [Device.conditionsShown_iff] at shown ⊢
  intro source holds
  rcases h.covers source holds with before | flag
  · exact h.grows source (shown source before)
  · exact flag

/-- Nothing comes to be shown where the flags stay, the engine stays in its state, and no port enters REFUSING. -/
theorem Device.Shows.of_calm {d e : Device} (flags : e.notices.flags = d.notices.flags) (engine : e.engine.state = d.engine.state)
    (ports : ∀ p, (e.ports.get p).state = .refusing → (d.ports.get p).state = .refusing) : d.Shows e where
  grows := fun source flag => by rwa [Device.flagged, flags]
  covers := fun source holds => by
    refine .inl ?_
    cases source with
    | portFault p => simpa [Device.conditionHolds] using ports p (by simpa [Device.conditionHolds] using holds)
    | recordError | chainEnd => simpa [Device.conditionHolds, engine] using holds
    | _ => exact holds

/-- A raised source is a flag more, and changes no condition. -/
theorem Device.Shows.raise (d : Device) (n : Notice) : d.Shows (d.raise n) where
  grows := fun source flag => (d.flagged_raise n source).2 (.inl flag)
  covers := fun source holds => .inl (by cases source <;> exact holds)

/-! ## The relation -/

/-- The fields of the track that have a range (section 1.1). -/
def Track.ranged (t : Track) : Vec3 × Vec3 × Nat × PathResult := (t.position, t.velocity, t.outlierRun, t.pathResult)

theorem Track.InRange.of_ranged {t u : Track} (h : t.InRange) (same : u.ranged = t.ranged) : u.InRange := by
  simp only [Track.ranged, Prod.mk.injEq] at same
  obtain ⟨position, velocity, outliers, path⟩ := same
  exact ⟨position ▸ h.position, velocity ▸ h.velocity, outliers ▸ h.outliers, path ▸ h.path⟩

/-- What an event outside the sight maps' cells keeps. -/
structure Device.Keeps (d e : Device) : Prop where
  maps : e.smu.cells = d.smu.cells ∧ e.smu.sweep = d.smu.sweep ∧ e.smu.running = d.smu.running
  balanced : d.engine.Balanced → e.engine.Balanced
  ordered : d.engine.Ordered → e.engine.Ordered
  shows : d.Shows e
  ranges : d.RangesHold → e.RangesHold
  bearings : d.BearingsAgree → e.BearingsAgree

namespace Device.Keeps

theorem refl (d : Device) : d.Keeps d := ⟨⟨rfl, rfl, rfl⟩, id, id, .refl d, id, id⟩

theorem trans {d e f : Device} (h : d.Keeps e) (k : e.Keeps f) : d.Keeps f where
  maps := ⟨k.maps.1.trans h.maps.1, k.maps.2.1.trans h.maps.2.1, k.maps.2.2.trans h.maps.2.2⟩
  balanced := k.balanced ∘ h.balanced
  ordered := k.ordered ∘ h.ordered
  shows := h.shows.trans k.shows
  ranges := k.ranges ∘ h.ranges
  bearings := k.bearings ∘ h.bearings

/-! ## One block changed -/

variable {d e : Device}

/-- The track changed, its ranged fields back in their ranges. -/
theorem onTrackInRange (k : d.Keeps e) {f : Track → Track} (h : d.RangesHold → e.RangesHold → (f e.track).InRange) :
    d.Keeps (e.onTrack f) where
  maps := k.maps
  balanced := k.balanced
  ordered := k.ordered
  shows := k.shows.trans (.of_calm rfl rfl fun _ => id)
  ranges := fun r => have s := k.ranges r; ⟨h r s, s.params, s.xfu, s.scans⟩
  bearings := fun b => have a := k.bearings b; ⟨a.answered, a.asked⟩

/-- The track changed in other fields than the ranged ones. -/
theorem onTrack (k : d.Keeps e) {f : Track → Track} (same : (f e.track).ranged = e.track.ranged) : d.Keeps (e.onTrack f) :=
  k.onTrackInRange fun _ s => s.track.of_ranged same

/-- A station changed, its bearing record as it was. -/
theorem onStation (k : d.Keeps e) (p : Port) {f : Station → Station}
    (same : (f (e.stations.get p)).query = (e.stations.get p).query ∧ (f (e.stations.get p)).answer = (e.stations.get p).answer) :
    d.Keeps (e.onStation p f) where
  maps := k.maps
  balanced := k.balanced
  ordered := k.ordered
  shows := k.shows.trans (.of_calm rfl rfl fun _ => id)
  ranges := fun r => have s := k.ranges r; ⟨s.track, s.params, s.xfu, s.scans⟩
  bearings := fun b => by
    obtain ⟨answered, asked⟩ := k.bearings b
    have query : ∀ r, ((e.onStation p f).stations.get r).query = (e.stations.get r).query := fun r => by
      rw [Device.onStation_stations, PerPort.get_set]
      split
      · next at_ => rw [at_, same.1]
      · rfl
    have answer : ∀ r, ((e.onStation p f).stations.get r).answer = (e.stations.get r).answer := fun r => by
      rw [Device.onStation_stations, PerPort.get_set]
      split
      · next at_ => rw [at_, same.2]
      · rfl
    exact ⟨fun r => by rw [query, answer]; exact answered r, fun l mem fresh => by rw [query]; exact asked l mem fresh⟩

/-- A port changed that does not enter REFUSING. -/
theorem onPort (k : d.Keeps e) (p : Port) {f : LinkPort → LinkPort}
    (calm : (f (e.ports.get p)).state = .refusing → (e.ports.get p).state = .refusing) : d.Keeps (e.onPort p f) where
  maps := k.maps
  balanced := k.balanced
  ordered := k.ordered
  shows := k.shows.trans <| .of_calm rfl rfl fun q => by
    rw [Device.onPort_ports, PerPort.get_set]
    split
    · next at_ => rw [at_]; exact calm
    · exact id
  ranges := fun r => have s := k.ranges r; ⟨s.track, s.params, s.xfu, s.scans⟩
  bearings := fun b => have a := k.bearings b; ⟨a.answered, a.asked⟩

/-- The transform unit changed, its queues within their ranges. -/
theorem onXfu (k : d.Keeps e) {f : Xfu → Xfu} (bounded : e.xfu.Bounded → (f e.xfu).Bounded) : d.Keeps (e.onXfu f) where
  maps := k.maps
  balanced := k.balanced
  ordered := k.ordered
  shows := k.shows.trans (.of_calm rfl rfl fun _ => id)
  ranges := fun r => have s := k.ranges r; ⟨s.track, s.params, bounded s.xfu, s.scans⟩
  bearings := fun b => have a := k.bearings b; ⟨a.answered, a.asked⟩

/-- The requests on their way to the sight map unit changed: the scans taken among them were taken before, and no lookup is asked for
without a query. -/
theorem onSmu (k : d.Keeps e) {f : Smu → Smu}
    (maps : (f e.smu).cells = e.smu.cells ∧ (f e.smu).sweep = e.smu.sweep ∧ (f e.smu).running = e.smu.running)
    (scans : ∀ s ∈ (f e.smu).scans, ∀ r, s.result = some r → r.InRange ∨ ∃ s' ∈ e.smu.scans, s'.result = some r)
    (lookups : ∀ l ∈ (f e.smu).lookups, l.forgotten = false →
      (e.stations.get l.station).query.isSome = true ∨ ∃ l' ∈ e.smu.lookups, l'.forgotten = false ∧ l'.station = l.station) :
    d.Keeps (e.onSmu f) where
  maps := ⟨maps.1.trans k.maps.1, maps.2.1.trans k.maps.2.1, maps.2.2.trans k.maps.2.2⟩
  balanced := k.balanced
  ordered := k.ordered
  shows := k.shows.trans (.of_calm rfl rfl fun _ => id)
  ranges := fun r => by
    obtain ⟨track, params, xfu, taken⟩ := k.ranges r
    refine ⟨track, params, xfu, fun s mem result at_ => ?_⟩
    rcases scans s mem result at_ with inRange | ⟨s', mem', at_'⟩
    · exact inRange
    · exact taken s' mem' result at_'
  bearings := fun b => by
    obtain ⟨answered, asked⟩ := k.bearings b
    refine ⟨answered, fun l mem fresh => ?_⟩
    rcases lookups l mem fresh with query | ⟨l', mem', fresh', station⟩
    · exact query
    · exact station ▸ asked l' mem' fresh'

/-- The system bus interface changed. -/
theorem onSbi (k : d.Keeps e) (f : Sbi → Sbi) : d.Keeps (e.onSbi f) where
  maps := k.maps
  balanced := k.balanced
  ordered := k.ordered
  shows := k.shows.trans (.of_calm rfl rfl fun _ => id)
  ranges := fun r => have s := k.ranges r; ⟨s.track, s.params, s.xfu, s.scans⟩
  bearings := fun b => have a := k.bearings b; ⟨a.answered, a.asked⟩

/-- The engine changed, and some notice flags set, as the engine's own operations do it. -/
theorem ofEngine (k : d.Keeps e) {f : Device}
    (leaves : f.smu = e.smu ∧ f.track = e.track ∧ f.params = e.params ∧ f.xfu = e.xfu ∧ f.stations = e.stations)
    (balanced : e.engine.Balanced → f.engine.Balanced) (ordered : e.engine.Ordered → f.engine.Ordered) (shows : e.Shows f) :
    d.Keeps f := by
  obtain ⟨smu, track, params, xfu, stations⟩ := leaves
  refine k.trans ⟨by simp [smu], balanced, ordered, shows, fun s => ?_, fun b => ?_⟩
  · exact ⟨track ▸ s.track, params ▸ s.params, xfu ▸ s.xfu, smu ▸ s.scans⟩
  · exact ⟨stations ▸ b.answered, by rw [smu, stations]; exact b.asked⟩

theorem raise (k : d.Keeps e) (n : Notice) : d.Keeps (e.raise n) :=
  k.ofEngine ⟨rfl, rfl, rfl, rfl, rfl⟩ id id (.raise e n)

/-- A record goes to the engine. -/
theorem join (k : d.Keeps e) (r : Record) : d.Keeps (e.onEngine fun f => f.join r) := by
  refine k.ofEngine ⟨rfl, rfl, rfl, rfl, rfl⟩ (fun b => b.join r) (fun o => o.join r) (.of_calm rfl ?_ fun _ => id)
  rcases e.engine.join_cases r with ⟨joined, -⟩ | ⟨joined, -⟩ <;> simp [joined]

end Device.Keeps

end Sys2Proof.Machine
end

section
/-! PROOFS. The relation of the kept laws through the record output engine's operations and events (R169 to R180). -/

namespace Sys2Proof.Machine

namespace Device.Shows

variable {d e : Device}

/-- The engine changed, not into HALTED nor STARVED. -/
theorem onEngine (h : d.Shows e) {f : Engine → Engine} (halted : (f e.engine).state = .halted → e.engine.state = .halted)
    (starved : (f e.engine).state = .starved → e.engine.state = .starved) : d.Shows (e.onEngine f) :=
  h.trans
    { grows := fun _ => id
      covers := fun source holds => by
        refine .inl ?_
        cases source with
        | recordError => exact decide_eq_true (halted (of_decide_eq_true holds))
        | chainEnd => exact decide_eq_true (starved (of_decide_eq_true holds))
        | _ => exact holds }

/-- The engine changed within its state. -/
theorem onEngineSame (h : d.Shows e) {f : Engine → Engine} (same : (f e.engine).state = e.engine.state) : d.Shows (e.onEngine f) :=
  h.onEngine (fun k => same ▸ k) (fun k => same ▸ k)

theorem raised (h : d.Shows e) (n : Notice) : d.Shows (e.raise n) := h.trans (.raise e n)

/-- The engine changed, with RECORD_ERROR raised: it may be HALTED (R180). -/
theorem onEngine_recordError (h : d.Shows e) {f : Engine → Engine}
    (starved : (f e.engine).state = .starved → e.engine.state = .starved) : d.Shows ((e.onEngine f).raise .recordError) :=
  h.trans
    { grows := fun source flag => (flagged_raise _ _ source).2 (.inl flag)
      covers := fun source holds => by
        cases source with
        | recordError => exact .inr ((flagged_raise _ _ _).2 (.inr rfl))
        | chainEnd => exact .inl (decide_eq_true (starved (of_decide_eq_true holds)))
        | _ => exact .inl holds }

/-- The engine changed, with CHAIN_END raised: it may be STARVED (R177). -/
theorem onEngine_chainEnd (h : d.Shows e) {f : Engine → Engine}
    (halted : (f e.engine).state = .halted → e.engine.state = .halted) : d.Shows ((e.onEngine f).raise .chainEnd) :=
  h.trans
    { grows := fun source flag => (flagged_raise _ _ source).2 (.inl flag)
      covers := fun source holds => by
        cases source with
        | recordError => exact .inl (decide_eq_true (halted (of_decide_eq_true holds)))
        | chainEnd => exact .inr ((flagged_raise _ _ _).2 (.inr rfl))
        | _ => exact .inl holds }

theorem engineError (h : d.Shows e) (code : EngineError) (address : Word) : d.Shows (e.engineError code address) :=
  h.onEngine_recordError fun k => by simp at k

theorem reportError (h : d.Shows e) (c : Descriptor) (code : EngineError) : d.Shows (e.reportError c code) := by
  unfold Device.reportError
  split
  · exact h.onEngineSame rfl
  · exact h

theorem beginFetch (h : d.Shows e) : d.Shows e.beginFetch := by
  unfold Device.beginFetch
  repeat' split
  · exact h
  · exact h.engineError ..
  · exact h.engineError ..
  · exact h.onEngineSame rfl

theorem beginWriteback (h : d.Shows e) (purpose : WritebackPurpose) (status : CompletionStatus) (c : Descriptor) :
    d.Shows (e.beginWriteback purpose status c) := by
  unfold Device.beginWriteback
  repeat' split
  · exact h.onEngineSame rfl
  · exact h.onEngine_recordError id
  · exact h.engineError ..

theorem closeBuffer (h : d.Shows e) (status : CompletionStatus) : d.Shows (e.closeBuffer status) := by
  unfold Device.closeBuffer
  split
  · exact h
  · exact (h.onEngineSame rfl).beginWriteback ..

theorem flush (h : d.Shows e) : d.Shows e.flush := by
  simp only [Device.flush]
  repeat' split
  · exact (h.onEngineSame rfl).closeBuffer _
  · exact h.onEngineSame rfl
  · exact h.onEngineSame rfl
  · exact h.onEngineSame rfl
  · exact h

theorem takeStart (h : d.Shows e) (address : Word) : d.Shows (e.takeStart address) := by
  have begun : d.Shows (e.onEngine fun g =>
      { g with error := none, errorAddress := 0, flush := none, access := none, bufferOpen := false,
               current := some (freshDescriptor address), state := .fetching }) :=
    h.onEngine (fun k => by simp at k) (fun k => by simp at k)
  unfold Device.takeStart
  split
  · exact begun.beginWriteback ..
  · exact begun.beginFetch

theorem takeEnable (h : d.Shows e) : d.Shows e.takeEnable := by
  refine h.onEngine (fun k => ?_) (fun k => ?_) <;>
  · split at k
    · simp at k
    · exact k

theorem takeDisable (h : d.Shows e) : d.Shows e.takeDisable := by
  have off : d.Shows (e.onEngine fun g =>
      { g with access := none, bufferOpen := false, dropped := g.dropped + BitVec.ofNat 32 g.fifo.length, fifo := [],
               flush := none, state := .disabled }) :=
    h.onEngine (fun k => by simp at k) (fun k => by simp at k)
  simp only [Device.takeDisable]
  repeat' split
  · exact h
  · exact off.beginWriteback ..
  · exact off
  · exact off

theorem takeEngineReset (h : d.Shows e) : d.Shows e.takeEngineReset :=
  h.onEngine (fun k => by simp [Engine.reset] at k) (fun k => by simp [Engine.reset] at k)

/-- A command status shows nothing. -/
theorem setStatus (h : d.Shows e) (code : Byte) (outcome : CommandOutcome) (reason : RefusalReason) :
    d.Shows (e.setStatus code outcome reason) :=
  h.trans (.of_calm rfl rfl fun _ => id)

theorem dropHeldStart (h : d.Shows e) : d.Shows e.dropHeldStart := by
  unfold Device.dropHeldStart
  split
  · exact h.setStatus ..
  · exact h

theorem takeHeld (h : d.Shows e) : d.Shows e.takeHeld := by
  have free : d.Shows (e.onEngine fun g => { g with held := none }) := h.onEngineSame rfl
  simp only [Device.takeHeld]
  repeat' split
  · exact h
  · exact h
  · exact (free.takeStart _).setStatus ..
  · exact free.takeEnable
  · exact free.takeDisable
  · exact free.takeEngineReset

end Device.Shows

namespace Device.Keeps

variable {d e : Device}

/-! ## The operations that other blocks call (R178) -/

theorem flush (k : d.Keeps e) : d.Keeps e.flush :=
  k.ofEngine (by simp) (fun b => b.of_ledger (by simp)) Device.flush_keeps_ordered (.flush (.refl e))

/-! ## The actions of the control word (R169 to R171) -/

theorem storeSettings (k : d.Keeps e) (big flush : Bool) : d.Keeps (e.storeSettings big flush) :=
  k.ofEngine (by simp) (fun b => b.of_ledger ⟨rfl, rfl, rfl, rfl⟩) (fun o => Device.storeSettings_ordered o big flush)
    ((Shows.refl e).onEngineSame rfl)

theorem enableAction (k : d.Keeps e) : d.Keeps e.enableAction := by
  refine k.ofEngine (by simp) Device.enableAction_balanced Device.enableAction_ordered ?_
  unfold Device.enableAction
  repeat' split
  · exact (Shows.refl e).onEngineSame rfl
  · exact .refl e
  · exact (Shows.refl e).takeEnable

theorem disableAction (k : d.Keeps e) : d.Keeps e.disableAction := by
  refine k.ofEngine (by simp) Device.disableAction_balanced Device.disableAction_ordered ?_
  unfold Device.disableAction
  repeat' split
  · exact .refl e
  · exact (Shows.refl e).dropHeldStart.onEngineSame rfl
  · exact (Shows.refl e).takeDisable

theorem engineResetAction (k : d.Keeps e) : d.Keeps e.engineResetAction := by
  refine k.ofEngine (by simp) Device.engineResetAction_balanced Device.engineResetAction_ordered ?_
  unfold Device.engineResetAction
  split
  · exact (Shows.refl e).dropHeldStart.onEngineSame rfl
  · exact (Shows.refl e).takeEngineReset

theorem engineControl (k : d.Keeps e) (w : Word) : d.Keeps (e.engineControl w) := by
  have set : d.Keeps (e.storeSettings (w.getLsbD 8) (w.getLsbD 9)) := k.storeSettings ..
  simp only [Device.engineControl]
  repeat' split
  · exact set.engineResetAction
  · exact set.disableAction
  · exact set.enableAction
  · exact set

/-! ## ROE_START, ROE_FLUSH, ROE_RESUME (R171, R174, R178, R179) -/

theorem judgeStart {result : Device} (h : d.judgeStart = .taken result ∨ d.judgeStart = .held result) :
    d.Keeps result := by
  unfold Device.judgeStart at h
  by_cases held : d.engine.held.isSome = true
  · simp [held] at h
  by_cases off : d.engine.state = .disabled
  · simp [held, off] at h
  by_cases busy : d.engine.writeInFlight = true
  · obtain rfl : (d.onEngine fun e => { e with held := some (.start d.sbi.parameters.p0) }) = result := by
      simpa [held, off, busy] using h
    exact (refl d).ofEngine (by simp) (fun b => b.of_ledger ⟨rfl, rfl, rfl, rfl⟩) (fun o => o.free.hold busy _)
      ((Shows.refl d).onEngineSame rfl)
  · obtain rfl : d.takeStart d.sbi.parameters.p0 = result := by simpa [held, off, busy] using h
    exact (refl d).ofEngine (by simp) (fun b => b.of_ledger (by simp))
      (fun _ => (d.takeStart_ordered _).ordered_of_none (by simpa using held)) ((Shows.refl d).takeStart _)

theorem judgeFlush {result : Device} (h : d.judgeFlush = .taken result) : d.Keeps result := by
  unfold Device.judgeFlush at h
  split at h
  · simp at h
  · obtain rfl : d.flush = result := by simpa using h
    exact (refl d).flush

theorem judgeResume {result : Device} (h : d.judgeResume = .taken result) : d.Keeps result := by
  unfold Device.judgeResume at h
  by_cases held : d.engine.held.isSome = true
  · simp [held] at h
  by_cases starved : d.engine.state = .starved
  · by_cases busy : d.engine.access.isSome = true
    · simp [held, starved, busy] at h
    · obtain rfl : d.takeResume = result := by simpa [held, starved, busy] using h
      have free : d.engine.held = none := by simpa using held
      refine (refl d).ofEngine (by simp) (fun b => b.of_ledger (by simp)) (fun o => ?_) ?_
      · simp only [Device.takeResume]
        split
        · exact ⟨o.buffer, fun _ _ _ k => by simp at k, fun _ _ _ _ _ k => by simp at k, fun _ _ _ _ => starved, o.flushing,
            o.disabled, fun k => by simp [free] at k⟩
        · exact (d.engineError_ordered ..).ordered_of_none (by simpa using free)
      · simp only [Device.takeResume]
        split
        · exact (Shows.refl d).onEngineSame rfl
        · exact (Shows.refl d).engineError ..
  · simp [held, starved] at h

/-! ## The engine's own events (R175 to R180) -/

theorem beginRecordWrite (k : d.Keeps e) : d.Keeps e.beginRecordWrite := by
  refine k.ofEngine (by simp) Device.beginRecordWrite_balanced Device.beginRecordWrite_ordered ?_
  simp only [Device.beginRecordWrite]
  repeat' split
  · exact (Shows.refl e).onEngineSame rfl
  · exact ((Shows.refl e).engineError ..).reportError ..
  · exact .refl e
  · exact .refl e

theorem endRecordWrite (k : d.Keeps e) (ok : Bool) : d.Keeps (e.endRecordWrite ok) := by
  refine k.ofEngine (by simp) (fun b => Device.endRecordWrite_balanced b ok) (fun o => Device.endRecordWrite_ordered o ok) ?_
  unfold Device.endRecordWrite
  split
  · refine Shows.takeHeld ?_
    split
    · simp only [Device.recordLanded]
      generalize (if e.engine.flush.map (· - 1) = some 0 then none else e.engine.flush.map (· - 1)) = left
      repeat' split
      · exact ((Shows.refl e).onEngineSame rfl).closeBuffer _
      · exact ((Shows.refl e).onEngineSame rfl).closeBuffer _
      · exact (Shows.refl e).onEngineSame rfl
    · exact ((Shows.refl e).engineError ..).reportError ..
  · exact .refl e

theorem endWriteback (k : d.Keeps e) (ok : Bool) : d.Keeps (e.endWriteback ok) := by
  refine k.ofEngine (by simp) (fun b => Device.endWriteback_balanced b ok) (fun o => Device.endWriteback_ordered o ok) ?_
  unfold Device.endWriteback
  split
  · refine Shows.takeHeld ?_
    have free : e.Shows (e.onEngine fun g => { g with access := none }) := (Shows.refl e).onEngineSame rfl
    unfold Device.writebackEnded
    split
    · have closed : ∀ x, e.Shows ((e.onEngine fun g => { g with access := none, lastDescriptor := x }).raise .bufferDone) :=
        fun x => ((Shows.refl e).onEngineSame rfl).raised _
      simp only [Device.followChain]
      repeat' split
      · exact closed _
      · exact (closed _).onEngine_chainEnd fun k => by simp at k
      · exact ((closed _).onEngine (fun k => by simp at k) (fun k => by simp at k)).beginFetch
    · exact (Shows.refl e).engineError ..
    · exact free.raised _
    · exact free.onEngine_recordError id
    · exact (free.onEngineSame rfl).beginFetch
    · exact (Shows.refl e).engineError ..
    · exact free
  · exact .refl e

theorem endDescriptorRead (k : d.Keeps e) (answer : Option (BitVec 128)) : d.Keeps (e.endDescriptorRead answer) := by
  refine k.ofEngine (by simp) (fun b => Device.endDescriptorRead_balanced b answer)
    (fun o => Device.endDescriptorRead_ordered o answer) ?_
  simp only [Device.endDescriptorRead]
  repeat' split
  · exact (Shows.refl e).engineError ..
  · exact ((Shows.refl e).engineError ..).reportError ..
  · exact (Shows.refl e).onEngine (fun k => by simp at k) (fun k => by simp at k)
  · exact .refl e

theorem endReread (k : d.Keeps e) (answer : Option Word) : d.Keeps (e.endReread answer) := by
  refine k.ofEngine (by simp) (fun b => Device.endReread_balanced b answer) (fun o => Device.endReread_ordered o answer) ?_
  simp only [Device.endReread]
  repeat' split
  · exact (Shows.refl e).engineError ..
  · exact (Shows.refl e).onEngineSame rfl
  · exact (((Shows.refl e).onEngineSame rfl).onEngine (fun k => by simp at k) (fun k => by simp at k)).beginFetch
  · exact .refl e

end Device.Keeps

end Sys2Proof.Machine
end

section
/-! PROOFS. The relation of the kept laws through the track unit's operations: orders and releases, records, the filter, the ownership
state machine, and the ends of deadlines. -/

namespace Sys2Proof.Machine

/-- A RELEASE leaves the port's state. -/
theorem LinkPort.placeRelease_state (l : LinkPort) (reason : ReleaseReason) : (l.placeRelease reason).state = l.state := by
  unfold LinkPort.placeRelease
  split <;> rfl

/-- A point whose coordinates fit the signed 32-bit range. -/
def Vec3.InRange (v : Vec3) : Prop := inRange32 v.x ∧ inRange32 v.y ∧ inRange32 v.z

theorem Vec3.saturate32_inRange (v : Vec3) : v.saturate32.InRange :=
  ⟨saturate32_mem v.x, saturate32_mem v.y, saturate32_mem v.z⟩

theorem clampVelocity_natAbs_le (v : Int) : (clampVelocity v).natAbs ≤ 4000000 := by
  have := saturate_mem (lo := -Config.velocityLimit) (hi := Config.velocityLimit) (by decide) v
  simp only [Config.velocityLimit] at this
  unfold clampVelocity Config.velocityLimit
  omega

/-- A clamped velocity stands within its limit (R14). -/
theorem Vec3.clampVelocity_within (v : Vec3) : v.clampVelocity.within 4000000 = true := by
  simp [Vec3.within, Vec3.clampVelocity, clampVelocity_natAbs_le]

/-- A path scan is asked for without a result (R19). -/
theorem Device.scanRequest_waits (d : Device) (r : TrackResult) (q : Scan) (h : d.scanRequest r = some q) : q.result = none := by
  unfold Device.scanRequest at h
  split at h
  · simp at h
  · split at h
    · obtain rfl := Option.some.inj h
      rfl
    · simp at h

namespace Device.Keeps

variable {d e : Device}

/-- The track replaced, its ranged fields in their ranges. -/
theorem withTrack (k : d.Keeps e) {t : Track} (h : d.RangesHold → e.RangesHold → t.InRange) : d.Keeps { e with track := t } :=
  k.onTrackInRange (f := fun _ => t) h

/-- The track changed in other fields than the ranged ones, whatever it holds. -/
theorem onEveryTrack (k : d.Keeps e) {f : Track → Track} (same : ∀ t, (f t).ranged = t.ranged) : d.Keeps (e.onTrack f) :=
  k.onTrack (same _)

theorem onTrackCounters (k : d.Keeps e) (f : TrackCounters → TrackCounters) : d.Keeps (e.onTrackCounters f) := k.onTrack rfl

theorem onDeadlines (k : d.Keeps e) (f : Deadlines → Deadlines) : d.Keeps (e.onDeadlines f) := k.onTrack rfl

/-- A fold of operations keeps what each of them keeps. -/
theorem foldl {α : Type} (k : d.Keeps e) {f : Device → α → Device} (step : ∀ (g : Device) a, g.Keeps (f g a)) (l : List α) :
    d.Keeps (l.foldl f e) := by
  induction l generalizing e with
  | nil => exact k
  | cons a l ih => exact ih (k.trans (step e a))

/-! ## Requests on their way -/

theorem sendLearning (k : d.Keeps e) (r : LearnRequest) : d.Keeps (e.sendLearning r) :=
  k.onSmu ⟨rfl, rfl, rfl⟩ (fun s mem _ at_ => .inr ⟨s, mem, at_⟩) (fun l mem fresh => .inr ⟨l, mem, fresh, rfl⟩)

theorem placeInverse (k : d.Keeps e) (r : InverseRequest) : d.Keeps (e.onXfu fun x => x.placeInverse r) :=
  k.onXfu fun b => ⟨b.outstanding, b.ingest, e.xfu.placeInverse_nodup r b.queries⟩

/-! ## Orders and releases (R28, R29) -/

theorem setStationState (k : d.Keeps e) (p : Port) (s : StationState) : d.Keeps (e.setStationState p s) :=
  k.onStation p ⟨rfl, rfl⟩

theorem endRole (k : d.Keeps e) (p : Port) : d.Keeps (e.endRole p) := (k.onPort p id).onTrack rfl

theorem standDown (k : d.Keeps e) (p : Port) : d.Keeps (e.standDown p) := (k.setStationState p _).endRole p

theorem sendRelease (k : d.Keeps e) (p : Port) (reason : ReleaseReason) : d.Keeps (e.sendRelease p reason) := by
  unfold Device.sendRelease
  split
  · exact k
  · exact k.onPort p fun h => by rwa [LinkPort.placeRelease_state] at h

theorem releaseStation (k : d.Keeps e) (p : Port) (reason : ReleaseReason) : d.Keeps (e.releaseStation p reason) :=
  (k.sendRelease p reason).standDown p

theorem releaseSearching (k : d.Keeps e) (reason : ReleaseReason) (winner : Option Port) :
    d.Keeps (e.releaseSearching reason winner) := by
  refine k.foldl (fun g p => ?_) _
  split
  · exact (refl g).releaseStation p reason
  · exact refl g

theorem placeOrder (k : d.Keeps e) (p : Port) (kind : OrderKind) (f : OutFrame) : d.Keeps (e.placeOrder p kind f) :=
  (k.onPort p id).onTrack rfl

theorem sendSearch (k : d.Keeps e) (p : Port) (target : Option (Vec3 × Nat)) : d.Keeps (e.sendSearch p target) :=
  (k.placeOrder p _ _).setStationState p _

theorem joinAcquire (k : d.Keeps e) (p : Port) (was : Bool) : d.Keeps (e.joinAcquire p was) := by
  unfold Device.joinAcquire
  split
  · exact k.sendSearch p _
  · exact k

/-! ## Records and the change of state (R25, R26) -/

theorem produce (k : d.Keeps e) (r : Record) : d.Keeps (e.produce r) := (k.onTrack rfl).join _

theorem changeState (k : d.Keeps e) (after : TrackState) (sat : Bool) : d.Keeps (e.changeState after sat) :=
  ((k.onTrack rfl).produce _).raise _

/-! ## The filter (R9 to R14) -/

theorem countStale (k : d.Keeps e) : d.Keeps e.countStale := k.onTrackCounters _

theorem countForeign (k : d.Keeps e) : d.Keeps e.countForeign := k.onTrackCounters _

theorem reseed (k : d.Keeps e) {r : TrackResult} (measured : r.measured.InRange) (after : TrackState) :
    d.Keeps (e.reseed r after) := by
  refine (k.withTrack ?_).produce _
  exact fun _ s => ⟨measured, rfl, Nat.zero_le _, s.track.path⟩

theorem update (k : d.Keeps e) (r : TrackResult) (after : TrackState) : d.Keeps (e.update r after) := by
  refine (k.withTrack ?_).produce _
  exact fun _ s => ⟨Vec3.saturate32_inRange _, Vec3.clampVelocity_within _, Nat.zero_le _, s.track.path⟩

theorem applyLock (k : d.Keeps e) {r : TrackResult} (measured : r.measured.InRange) (after : TrackState) :
    d.Keeps (e.applyLock r after) := by
  unfold Device.applyLock
  split
  · exact k.reseed measured after
  · exact k.update r after

theorem askScan (k : d.Keeps e) {s : Option Scan} (waiting : ∀ q, s = some q → q.result = none) : d.Keeps (e.askScan s) := by
  unfold Device.askScan
  split
  · exact k
  · next q =>
    refine k.onSmu ⟨rfl, rfl, rfl⟩ (fun s mem r at_ => ?_) (fun l mem fresh => .inr ⟨l, mem, fresh, rfl⟩)
    rcases List.mem_append.1 mem with old | new
    · exact .inr ⟨s, old, at_⟩
    · obtain rfl : s = q := by simpa using new
      exact absurd (at_.symm.trans (waiting s rfl)) (by simp)

/-- The outlier below the limit is counted, within the range of outlier_run; at the limit it reseeds (R12). -/
theorem outlier (k : d.Keeps e) {r : TrackResult} (measured : r.measured.InRange) : d.Keeps (e.outlier r) := by
  unfold Device.outlier
  split
  · refine (k.withTrack ?_).produce _
    exact fun _ s => ⟨measured, rfl, Nat.zero_le _, s.track.path⟩
  · next below =>
    refine k.withTrack fun _ s => ⟨s.track.position, s.track.velocity, ?_, s.track.path⟩
    have counted : e.track.outlierRun + 1 ≤ 15 := Nat.le_trans (Nat.le_of_not_le below) s.params.outlierLimit.2
    exact counted

theorem observe (k : d.Keeps e) {r : TrackResult} (measured : r.measured.InRange) : d.Keeps (e.observe r) := by
  simp only [Device.observe]
  repeat' split
  · exact k.countStale
  · exact k.reseed measured _
  · exact (k.update r _).askScan (scanRequest_waits e r)
  · exact k.outlier measured

/-! ## Search and loss (R68, R72, R75) -/

theorem enterLost (k : d.Keeps e) : d.Keeps e.enterLost := by
  have lost : d.Keeps (((e.onTrack fun t =>
      { t with searchPending := .same false, searchPoint := none, deadlines := .absent }).changeState .lost false).raise .trackLost) :=
    ((k.onTrack rfl).changeState _ _).raise _
  simp only [Device.enterLost]
  split
  · exact lost.flush
  · exact lost

theorem endCheck (k : d.Keeps e) : d.Keeps e.endCheck := by
  unfold Device.endCheck
  split
  · exact k
  · exact k.enterLost

theorem placeSearches (k : d.Keeps e) (point : Vec3) : d.Keeps (e.placeSearches point) := by
  refine k.foldl (fun g p => ?_) _
  split
  · exact ((refl g).placeInverse _).onTrack rfl
  · exact refl g

theorem dropOwner (k : d.Keeps e) : d.Keeps e.dropOwner := by
  unfold Device.dropOwner
  split
  · exact (k.standDown _).onTrack rfl
  · exact k

theorem enterSearch (k : d.Keeps e) : d.Keeps e.enterSearch :=
  (((k.dropOwner.onTrack rfl).placeSearches _).changeState _ _).endCheck

/-! ## Blindness, handoffs and failed takes (R41 to R67) -/

theorem goBlind (k : d.Keeps e) : d.Keeps e.goBlind := k.onTrack rfl

theorem ownerBreak (k : d.Keeps e) : d.Keeps e.ownerBreak := by
  unfold Device.ownerBreak
  repeat' split
  · exact k.goBlind.changeState _ _
  · exact k
  · exact k.goBlind
  · exact k

theorem seeAgain (k : d.Keeps e) : d.Keeps e.seeAgain := k.onTrack rfl

theorem emptyPathResult (k : d.Keeps e) : d.Keeps e.emptyPathResult :=
  k.withTrack fun _ s =>
    ⟨s.track.position, s.track.velocity, s.track.outliers, ⟨fun _ h => by simp [PathResult.empty] at h, Nat.zero_le _⟩⟩

theorem startHandoff (k : d.Keeps e) (c : Port) : d.Keeps (e.startHandoff c) :=
  (((k.placeOrder c _ _).setStationState c _).onTrack rfl).changeState _ _

theorem tryHandoff (k : d.Keeps e) : d.Keeps e.tryHandoff := by
  unfold Device.tryHandoff
  split
  · exact k.startHandoff _
  · exact k.onTrack rfl

/-- The part of a failed take before its change of state (R47). -/
theorem takeFailed (k : d.Keeps e) (c : Port) {h : Station → Station} {f : Track → Track}
    (record : ∀ s : Station, (h s).query = s.query ∧ (h s).answer = s.answer) (same : ∀ t, (f t).ranged = t.ranged) :
    d.Keeps ((((e.standDown c).onStation c h).onTrack f).raise .handoffFailed) :=
  (((k.standDown c).onStation c (record _)).onTrack (same _)).raise _

theorem failTake (k : d.Keeps e) (c : Port) (reason : FailReason) : d.Keeps (e.failTake c reason) := by
  simp only [Device.failTake]
  repeat' split
  · exact enterSearch (takeFailed k c (by intro; exact ⟨rfl, rfl⟩) (by intro; rfl))
  · exact changeState (takeFailed k c (by intro; exact ⟨rfl, rfl⟩) (by intro; rfl)) _ _
  · exact changeState (takeFailed k c (by intro; exact ⟨rfl, rfl⟩) (by intro; rfl)) _ _

theorem learnFailedTake (k : d.Keeps e) (c : Port) : d.Keeps (e.learnFailedTake c) := by
  unfold Device.learnFailedTake
  split
  · exact k.sendLearning _
  · exact k

theorem releaseFormerOwner (k : d.Keeps e) : d.Keeps e.releaseFormerOwner := by
  unfold Device.releaseFormerOwner
  split
  · exact k.releaseStation _ _
  · exact k

theorem makeOwner (k : d.Keeps e) (p : Port) : d.Keeps (e.makeOwner p) :=
  (((k.setStationState p _).endRole p).onTrack rfl).emptyPathResult

theorem completeHandoff (k : d.Keeps e) {r : TrackResult} (measured : r.measured.InRange) (c : Port) :
    d.Keeps (e.completeHandoff r c) :=
  ((((k.seeAgain.applyLock measured _).releaseFormerOwner.makeOwner c).onTrack rfl).raise _).changeState _ _

theorem confirmTake (k : d.Keeps e) {r : TrackResult} (measured : r.measured.InRange) (c : Port) : d.Keeps (e.confirmTake r c) := by
  unfold Device.confirmTake
  split
  · exact (k.countStale.releaseStation c _).failTake c _
  · exact (k.releaseStation c _).failTake c _
  · exact k.completeHandoff measured c
  · exact k.completeHandoff measured c

theorem acceptRelock (k : d.Keeps e) {r : TrackResult} (measured : r.measured.InRange) (o : Port) :
    d.Keeps (e.acceptRelock r o) := by
  have seen : ∀ after, d.Keeps (((e.seeAgain.applyLock r after).setStationState o .owner).emptyPathResult) :=
    fun after => ((k.seeAgain.applyLock measured after).setStationState o _).emptyPathResult
  simp only [Device.acceptRelock]
  split
  · exact (seen _).changeState _ _
  · exact seen _

theorem abandonTake (k : d.Keeps e) : d.Keeps e.abandonTake := by
  unfold Device.abandonTake
  split
  · exact (k.standDown _).onTrack rfl
  · exact k

theorem rejectRelock (k : d.Keeps e) (o : Port) : d.Keeps (e.rejectRelock o) :=
  ((k.releaseStation o _).onTrack rfl).abandonTake.enterSearch

theorem confirmRelock (k : d.Keeps e) {r : TrackResult} (measured : r.measured.InRange) (o : Port) :
    d.Keeps (e.confirmRelock r o) := by
  unfold Device.confirmRelock
  split
  · exact k.countStale.rejectRelock o
  · exact k.rejectRelock o
  · exact k.acceptRelock measured o
  · exact k.acceptRelock measured o

/-! ## Acquire and search resolution, routing (R6 to R8, R33, R69 to R72) -/

theorem winSearch (k : d.Keeps e) {r : TrackResult} (measured : r.measured.InRange) : d.Keeps (e.winSearch r) := by
  have owned := ((k.reseed measured .tracking).makeOwner r.source).releaseSearching .notChosen (some r.source)
  simp only [Device.winSearch]
  exact changeState (onEveryTrack owned (by intro; rfl)) _ _

theorem resolveSearch (k : d.Keeps e) {r : TrackResult} (measured : r.measured.InRange) : d.Keeps (e.resolveSearch r) := by
  unfold Device.resolveSearch
  repeat' split
  · exact (k.countStale.releaseStation _ _).endCheck
  · exact k.winSearch measured
  · exact (k.releaseStation _ _).endCheck

theorem answerLock (k : d.Keeps e) (p : Port) : d.Keeps (e.answerLock p) := (k.onTrackCounters _).sendRelease p _

theorem routeResult (k : d.Keeps e) {r : TrackResult} (measured : r.measured.InRange) : d.Keeps (e.routeResult r) := by
  unfold Device.routeResult
  repeat' split
  · exact k.countForeign
  · exact k.confirmRelock measured _
  · exact k.observe measured
  · exact k.countForeign
  · exact k.confirmTake measured _
  · exact k.winSearch measured
  · exact k.resolveSearch measured
  · exact k.answerLock _

theorem searchResult (k : d.Keeps e) (p : Port) (point : Vec3) : d.Keeps (e.searchResult p point) := by
  simp only [Device.searchResult]
  repeat' split
  · exact ((k.onTrack rfl).sendSearch p _).endCheck
  · exact (k.onTrack rfl).endCheck
  · exact k

/-! ## BREAK, FAIL and link events (R30 to R34, R72) -/

theorem takeBreak (k : d.Keeps e) (p : Port) : d.Keeps (e.takeBreak p) := by
  unfold Device.takeBreak
  repeat' split
  · exact k.ownerBreak
  · exact k.failTake p _
  · exact k

theorem searcherLeft (k : d.Keeps e) : d.Keeps e.searcherLeft := by
  unfold Device.searcherLeft
  repeat' split
  · exact k
  · exact k.enterLost
  · exact k.endCheck
  · exact k

theorem takeFail (k : d.Keeps e) (p : Port) : d.Keeps (e.takeFail p) := by
  unfold Device.takeFail
  repeat' split
  · exact k
  · exact (k.learnFailedTake p).failTake p _
  · exact (k.standDown p).searcherLeft
  · exact k

theorem leavePending (k : d.Keeps e) (p : Port) : d.Keeps (e.leavePending p) := by
  unfold Device.leavePending
  split
  · exact (k.onTrack rfl).endCheck
  · exact k

theorem reportLinkDown (k : d.Keeps e) (p : Port) (before : StationState) : d.Keeps (e.reportLinkDown p before) := by
  have ended : d.Keeps ((e.onTrack fun t => { t with latePort := if t.latePort = some p then none else t.latePort }).endRole p) :=
    endRole (onTrack k rfl) p
  simp only [Device.reportLinkDown]
  repeat' split
  · exact ended.ownerBreak
  · exact ended.failTake p _
  · exact ended.searcherLeft
  · exact ended.leavePending p

theorem orderUndelivered (k : d.Keeps e) (p : Port) (f : InFlight) : d.Keeps (e.orderUndelivered p f) := by
  unfold Device.orderUndelivered
  repeat' split
  · exact k.failTake p _
  · exact k
  · exact k.takeFail p
  · exact k
  · exact k

/-! ## Ticks and the ends of deadlines (R21, R37, R53, R55, R57, R64, R73) -/

theorem queryExpires (k : d.Keeps e) : d.Keeps e.queryExpires := by
  have asked : d.Keeps ((e.placeQueries e.queryPoint).onDeadlines fun l =>
      { l with query := some (timeAfter e.tb e.params.queryInterval) }) := by
    refine Device.Keeps.onDeadlines (k.foldl (fun g p => ?_) _) _
    split
    · exact (refl g).placeInverse _
    · exact refl g
  simp only [Device.queryExpires, Device.queryTick]
  repeat' split
  · exact asked.tryHandoff
  · exact asked
  · exact k

theorem outputExpires (k : d.Keeps e) : d.Keeps e.outputExpires := by
  unfold Device.outputExpires
  split
  · exact (k.produce _).onDeadlines _
  · exact k

theorem handoffExpires (k : d.Keeps e) : d.Keeps e.handoffExpires := by
  unfold Device.handoffExpires
  repeat' split
  · exact (((k.releaseStation _ _).learnFailedTake _).onTrack rfl).failTake _ _
  · exact k
  · exact k

theorem coastExpires (k : d.Keeps e) : d.Keeps e.coastExpires := by
  simp only [Device.coastExpires]
  repeat' split
  · exact (k.onDeadlines _).enterSearch
  · exact (k.onDeadlines _).onTrack rfl
  · exact k
  · exact k

theorem searchExpires (k : d.Keeps e) : d.Keeps e.searchExpires := by
  unfold Device.searchExpires
  repeat' split
  · exact (k.releaseSearching _ _).enterLost
  · exact (k.releaseSearching _ _).enterLost
  · exact k
  · exact k

theorem holdOffExpires (k : d.Keeps e) (p : Port) : d.Keeps (e.holdOffExpires p) := by
  unfold Device.holdOffExpires
  split
  · exact k.onStation p ⟨rfl, rfl⟩
  · exact k

/-! ## Path scan results (R20, R40) -/

theorem pathResultArrives (k : d.Keeps e) (p : Port) {r : PathResult} (inRange : d.RangesHold → r.InRange) :
    d.Keeps (e.pathResultArrives p r) := by
  have kept : d.Keeps (e.onTrack fun t => { t with pathResult := r }) :=
    k.withTrack fun h s => ⟨s.track.position, s.track.velocity, s.track.outliers, inRange h⟩
  simp only [Device.pathResultArrives]
  repeat' split
  · exact kept.tryHandoff
  · exact kept.onTrack rfl
  · exact kept
  · exact k

theorem handBackScan (d : Device) : d.Keeps d.handBackScan := by
  unfold Device.handBackScan
  split
  · exact refl d
  · next s rest scans =>
    split
    · next r taken =>
      have member : s ∈ d.smu.scans := by simp [scans]
      refine Device.Keeps.pathResultArrives ?_ s.port fun h => h.scans s member r taken
      refine (refl d).onSmu ⟨rfl, rfl, rfl⟩ (fun s' mem r' at_ => .inr ⟨s', ?_, at_⟩) (fun l mem fresh => .inr ⟨l, mem, fresh, rfl⟩)
      rw [scans]
      exact List.mem_cons_of_mem s mem
    · exact refl d

/-! ## The commands of the track unit (R31, R43, R56) -/

theorem armWith (k : d.Keeps e) (mask : PerPort Bool) : d.Keeps (e.armWith mask) := by
  refine Device.Keeps.changeState ((k.onTrack rfl).foldl (fun g p => ?_) _) _ _
  split
  · exact (refl g).sendSearch p _
  · exact refl g

theorem cancelRole (k : d.Keeps e) (p : Option Port) : d.Keeps (e.cancelRole p) := by
  unfold Device.cancelRole
  split
  · exact k.releaseStation _ _
  · exact k

theorem cancelTrack (k : d.Keeps e) : d.Keeps e.cancelTrack :=
  ((((k.cancelRole _).cancelRole _).releaseSearching _ _).onTrack rfl).changeState _ _

end Device.Keeps

end Sys2Proof.Machine
end

section
/-! PROOFS. The relation of the kept laws through the stations, the links, the transform unit and the requests to the sight map unit. -/

namespace Sys2Proof.Machine

/-- What stands in a list with one entry changed stood there before, or is the changed entry. -/
theorem mem_changeFirst {α : Type} {test : α → Bool} {f : α → α} {l : List α} {a : α} (h : a ∈ changeFirst test f l) :
    a ∈ l ∨ ∃ b ∈ l, a = f b := by
  induction l with
  | nil => simp [changeFirst] at h
  | cons b rest ih =>
    rw [changeFirst] at h
    split at h <;> rcases List.mem_cons.1 h with rfl | inside
    · exact .inr ⟨b, List.mem_cons_self, rfl⟩
    · exact .inl (List.mem_cons_of_mem b inside)
    · exact .inl List.mem_cons_self
    · rcases ih inside with old | ⟨c, mem, at_⟩
      · exact .inl (List.mem_cons_of_mem b old)
      · exact .inr ⟨c, List.mem_cons_of_mem b mem, at_⟩

/-- A scan's obstacle step is one of the steps it takes, and it counts at most one suspect at each. -/
theorem scanSteps_bounds (cells : List (Nat × CellState)) (p : Port) (c0 : Nat) (r0 dc dr : Int) (n fuel k suspect : Nat) :
    (∀ j, (scanSteps cells p c0 r0 dc dr n fuel k suspect).1 = some j → k ≤ j ∧ j < k + fuel) ∧
      (scanSteps cells p c0 r0 dc dr n fuel k suspect).2 ≤ suspect + fuel := by
  induction fuel generalizing k suspect with
  | zero => simp [scanSteps]
  | succ fuel ih =>
    simp only [scanSteps]
    repeat' split
    · exact ⟨fun j at_ => by obtain rfl := Option.some.inj at_; omega, by omega⟩
    · exact ⟨fun j at_ => by obtain rfl := Option.some.inj at_; omega, by omega⟩
    · obtain ⟨obstacle, count⟩ := ih (k + 1) (suspect + 1)
      exact ⟨fun j at_ => by have := obstacle j at_; omega, by omega⟩
    · obtain ⟨obstacle, count⟩ := ih (k + 1) suspect
      exact ⟨fun j at_ => by have := obstacle j at_; omega, by omega⟩
    · simp

/-- The result of a path scan stands in its ranges (R91). -/
theorem Smu.scan_inRange (m : Smu) (s : Scan) : (m.scan s).InRange := by
  have none_ : ∀ long, (⟨none, 0, long⟩ : PathResult).InRange := fun _ => ⟨fun _ h => by simp at h, Nat.zero_le _⟩
  simp only [Smu.scan]
  split
  · split
    · exact none_ _
    · obtain ⟨obstacle, count⟩ := scanSteps_bounds m.cells s.port (columnOf s.startAz) (rowOf s.startEl)
        (columnDiff (columnOf s.endAz) (columnOf s.startAz)) (rowOf s.endEl - rowOf s.startEl) s.steps
        (min s.steps Config.scanLimit) 1 0
      have limit : min s.steps Config.scanLimit ≤ 64 := Nat.min_le_right ..
      exact ⟨fun k at_ => by have := obstacle k at_; omega, Nat.le_trans count (by omega)⟩
  · exact none_ false

/-- The frame a port takes next, and the port without it (R156). -/
theorem LinkPort.nextFrame_cases {l rest : LinkPort} {f : OutFrame} (h : l.nextFrame = some (f, rest)) :
    (l.idreqPending = true ∧ f = .idreq ∧ rest = { l with idreqPending := false }) ∨
    (∃ control, l.control = f :: control ∧ rest = { l with control := control }) ∨
    (l.control = [] ∧ ∃ tag v, l.slot = some (tag, v) ∧ f = .point tag v ∧ rest = { l with slot := none }) := by
  unfold LinkPort.nextFrame at h
  repeat' split at h
  · next pending =>
    obtain ⟨rfl, rfl⟩ := Prod.mk.inj (Option.some.inj h)
    exact .inl ⟨pending, rfl, rfl⟩
  · next g control waits =>
    obtain ⟨rfl, rfl⟩ := Prod.mk.inj (Option.some.inj h)
    exact .inr (.inl ⟨control, waits, rfl⟩)
  · next empty _ tag v holds =>
    obtain ⟨rfl, rfl⟩ := Prod.mk.inj (Option.some.inj h)
    exact .inr (.inr ⟨empty, tag, v, holds, rfl, rfl⟩)
  · simp at h

/-- A take of the next frame changes nothing, or starts the send of that frame on an up port (R156). -/
theorem LinkPort.takeFrame_cases (l : LinkPort) :
    l.takeFrame = l ∨ (l.sending = .idle ∧ l.state ≠ .down ∧ ∃ f rest, l.nextFrame = some (f, rest) ∧
      l.takeFrame = { rest with sending := .sending ⟨f, l.seqCounter, f.isOrder⟩ 0, seqCounter := l.seqCounter + 1 }) := by
  unfold LinkPort.takeFrame
  split
  · exact .inl rfl
  · next idle up =>
    split
    · next f rest next_ => exact .inr ⟨idle, up, f, rest, next_, rfl⟩
    · exact .inl rfl
  · exact .inl rfl

theorem LinkPort.takeFrame_state (l : LinkPort) : l.takeFrame.state = l.state := by
  rcases l.takeFrame_cases with same | ⟨-, -, f, rest, next_, took⟩
  · rw [same]
  · rw [took]
    rcases LinkPort.nextFrame_cases next_ with ⟨-, -, rfl⟩ | ⟨_, -, rfl⟩ | ⟨-, _, _, -, -, rfl⟩ <;> rfl

/-- The queues of the transform unit within their ranges, read off their fields. -/
theorem Xfu.Bounded.of_fields {x y : Xfu} (h : x.Bounded)
    (same : y.outstanding = x.outstanding ∧ y.ingest = x.ingest ∧ y.queryQueue = x.queryQueue) : y.Bounded := by
  obtain ⟨outstanding, ingest, queries⟩ := same
  exact ⟨outstanding ▸ h.outstanding, by rw [outstanding, ingest]; exact h.ingest, queries ▸ h.queries⟩

theorem Xfu.Bounded.rotate {x : Xfu} (h : x.Bounded) (r : Requester) : (x.rotate r).Bounded :=
  h.of_fields (by rw [x.rotate_leaves r]; exact ⟨rfl, rfl, rfl⟩)

theorem Xfu.Bounded.startJob {x : Xfu} (h : x.Bounded) (station : Port) (j : Job) : (x.startJob station j).Bounded := by
  rcases x.startJob_cases station j with ⟨-, same⟩ | ⟨-, same⟩ <;> rw [same]
  · exact h.of_fields ⟨rfl, rfl, rfl⟩
  · exact h.of_fields ⟨rfl, rfl, rfl⟩

/-- One ingest queue replaced by one within its limit. -/
theorem Xfu.Bounded.setIngest {x : Xfu} (h : x.Bounded) (p : Port) {l : List IngestEntry} (fits : l.length ≤ x.outstanding.get p) :
    ({ x with ingest := x.ingest.set p l } : Xfu).Bounded where
  outstanding := h.outstanding
  ingest := fun q => by
    rw [PerPort.get_set]
    split
    · next at_ => exact at_ ▸ fits
    · exact h.ingest q
  queries := h.queries

namespace Device.Keeps

variable {d e : Device}

/-- A station's counters changed. -/
theorem onStationCounters (k : d.Keeps e) (p : Port) (f : StationCounters → StationCounters) : d.Keeps (e.onStationCounters p f) :=
  k.onStation p ⟨rfl, rfl⟩

/-! ## The stations -/

theorem joinIngest (k : d.Keeps e) (p : Port) (entry : IngestEntry) : d.Keeps (e.joinIngest p entry) := by
  simp only [Device.joinIngest]
  split
  · refine Device.Keeps.onStationCounters (k.onXfu fun b => b.setIngest p ?_) p _
    have := b.ingest p
    have := (b.outstanding p).1
    simp only [List.length_append, List.length_tail, List.length_singleton]
    omega
  · refine k.onXfu fun b => b.setIngest p ?_
    simp only [List.length_append, List.length_singleton]
    omega

theorem deliverObservation (k : d.Keeps e) (p : Port) (kind : ReportKind) (seq : Byte) (r : ObsReport) :
    d.Keeps (e.deliverObservation p kind seq r) := by
  refine Device.Keeps.sendLearning ?_ _
  split
  · exact (k.joinIngest p _).onStationCounters p _
  · exact k.onStationCounters p _

theorem deliverBearing (k : d.Keeps e) (p : Port) (r : BearingReport) : d.Keeps (e.deliverBearing p r) := by
  unfold Device.deliverBearing
  split
  · next asked =>
    refine (k.onStationCounters p _).onSmu ⟨rfl, rfl, rfl⟩ (fun s mem _ at_ => .inr ⟨s, mem, at_⟩) fun l mem fresh => ?_
    rcases List.mem_append.1 mem with old | new
    · exact .inr ⟨l, old, fresh, rfl⟩
    · obtain rfl := List.mem_singleton.1 new
      refine .inl ?_
      rw [Device.onStationCounters_stations, PerPort.get_set_self]
      have : ((e.stations.get p).query.map (·.tag)).isSome = true := by rw [asked]; rfl
      simpa using this
  · exact k.onStationCounters p _

theorem queryResult (k : d.Keeps e) (p : Port) (point : Vec3) (gen : Option Byte) : d.Keeps (e.queryResult p point gen) := by
  simp only [Device.queryResult]
  split
  · exact k
  · have asked : e.Keeps (e.onStation p fun s =>
        { s with tagCounter := (e.stations.get p).tagCounter + 1,
                 query := some ⟨(e.stations.get p).tagCounter + 1, point, e.tb⟩ }) := by
      refine ⟨⟨rfl, rfl, rfl⟩, id, id, .of_calm rfl rfl fun _ => id, fun s => ?_, fun b => ?_⟩
      · exact ⟨s.track, s.params, s.xfu, s.scans⟩
      · refine ⟨fun r => ?_, fun l mem fresh => ?_⟩ <;> rw [Device.onStation_stations, PerPort.get_set] <;> split
        · exact fun _ => rfl
        · exact b.answered r
        · rfl
        · exact b.asked l mem fresh
    exact Device.Keeps.onPort (k.trans asked) p id

theorem storeLookup (k : d.Keeps e) (p : Port) : d.Keeps (e.storeLookup p) := by
  simp only [Device.storeLookup]
  split
  · next l found =>
    have mem : l ∈ e.smu.lookups := List.mem_of_find?_eq_some found
    have at_ : l.station = p := by simpa using List.find?_some found
    have taken : d.Keeps (e.onSmu fun m => { m with lookups := m.lookups.eraseP (fun l => decide (l.station = p)) }) :=
      k.onSmu ⟨rfl, rfl, rfl⟩ (fun s mem _ at_ => .inr ⟨s, mem, at_⟩)
        (fun l mem fresh => .inr ⟨l, List.mem_of_mem_eraseP mem, fresh, rfl⟩)
    split
    · split
      · exact taken
      · next fresh =>
        refine ⟨taken.maps, taken.balanced, taken.ordered, taken.shows.trans (.of_calm rfl rfl fun _ => id),
          fun r => ?_, fun b => ?_⟩
        · have s := taken.ranges r
          exact ⟨s.track, s.params, s.xfu, s.scans⟩
        · have beside : (e.stations.get p).query.isSome = true :=
            at_ ▸ (k.bearings b).asked l mem (by simpa using fresh)
          obtain ⟨answered, asked⟩ := taken.bearings b
          refine ⟨fun r => ?_, fun l mem fresh => ?_⟩ <;> rw [Device.onStation_stations, PerPort.get_set] <;> split
          · exact fun _ => beside
          · exact answered r
          · exact beside
          · exact asked l mem fresh
    · exact k
  · exact k

theorem forgetBearing (k : d.Keeps e) (p : Port) : d.Keeps (e.forgetBearing p) := by
  have stations : (e.forgetBearing p).stations = e.stations.set p { e.stations.get p with query := none, answer := none } := rfl
  refine k.trans ⟨⟨rfl, rfl, rfl⟩, id, id, .of_calm rfl rfl fun _ => id, fun s => ⟨s.track, s.params, s.xfu, s.scans⟩, fun b => ?_⟩
  refine ⟨fun r => ?_, fun l mem fresh => ?_⟩ <;> rw [stations]
  · rw [PerPort.get_set]
    split
    · simp
    · exact b.answered r
  · obtain ⟨l', mem', marked⟩ := List.mem_map.1 mem
    have other : l'.station ≠ p := by
      intro at_
      rw [if_pos at_] at marked
      subst marked
      simp at fresh
    rw [if_neg other] at marked
    subst marked
    rw [PerPort.get_set_other _ _ _ _ other]
    exact b.asked l' mem' fresh

theorem deliverIdentity (k : d.Keeps e) (p : Port) (i : Identity) : d.Keeps (e.deliverIdentity p i) :=
  Device.Keeps.raise (k.onStation p ⟨rfl, rfl⟩) _

theorem deliverPass (k : d.Keeps e) (p : Port) (payload : List Byte) : d.Keeps (e.deliverPass p payload) := by
  unfold Device.deliverPass
  split
  · exact k.onPort p id
  · exact Device.Keeps.raise (k.onStation p ⟨rfl, rfl⟩) _

theorem releaseMailbox (k : d.Keeps e) (p : Port) : d.Keeps (e.releaseMailbox p) := k.onStation p ⟨rfl, rfl⟩

theorem setQuiet (k : d.Keeps e) (p : Port) (value : Bool) : d.Keeps (e.setQuiet p value) := by
  simp only [Device.setQuiet]
  split
  · exact Device.Keeps.onPort (k.onStation p ⟨rfl, rfl⟩) p id
  · exact Device.Keeps.joinAcquire (k.onStation p ⟨rfl, rfl⟩) p _

theorem quietBoundary (k : d.Keeps e) (p : Port) : d.Keeps (e.quietBoundary p) := by
  unfold Device.quietBoundary
  split
  · exact k.setQuiet p _
  · exact k

/-- A transform record replaced, and the station's generation and state with it. -/
theorem onRecord (k : d.Keeps e) (p : Port) (r : TransformRecord) (f : Station → Station)
    (same : ∀ s, (f s).query = s.query ∧ (f s).answer = s.answer) :
    d.Keeps (((e.onXfu fun x => { x with records := x.records.set p r }).onStation p f).forgetBearing p) :=
  Device.Keeps.forgetBearing
    (Device.Keeps.onStation (k.onXfu (f := fun x => { x with records := x.records.set p r }) fun b => b.of_fields ⟨rfl, rfl, rfl⟩)
      p (same _)) p

theorem loadTransform (k : d.Keeps e) (p : Port) : d.Keeps (e.loadTransform p) := by
  simp only [Device.loadTransform]
  exact Device.Keeps.joinAcquire (k.onRecord p _ _ (by intro; exact ⟨rfl, rfl⟩)) p _

theorem unloadTransform (k : d.Keeps e) (p : Port) : d.Keeps (e.unloadTransform p) := by
  simp only [Device.unloadTransform]
  exact Device.Keeps.leavePending (k.onRecord p _ _ (by intro; exact ⟨rfl, rfl⟩)) p

theorem stationLinkUp (k : d.Keeps e) (p : Port) : d.Keeps (e.stationLinkUp p) :=
  ((k.setStationState p _).raise _).joinAcquire p _

theorem stationLinkDown (k : d.Keeps e) (p : Port) : d.Keeps (e.stationLinkDown p) := by
  have gone : d.Keeps ((e.onStation p fun s => { s with state := .absent, identity := none }).forgetBearing p) :=
    Device.Keeps.forgetBearing (k.onStation p ⟨rfl, rfl⟩) p
  exact ((gone.quietBoundary p).raise _).reportLinkDown p _

/-! ## The links -/

theorem deliver (k : d.Keeps e) (p : Port) (f : GoodFrame) : d.Keeps (e.deliver p f) := by
  cases f with
  | obs seq r => exact k.deliverObservation p _ seq r
  | lock seq r => exact k.deliverObservation p _ seq r
  | beamBreak r =>
    refine Device.Keeps.takeBreak ?_ p
    split
    · exact k.sendLearning _
    · exact k
  | bearing r => exact k.deliverBearing p r
  | fail a b => exact k.takeFail p
  | ident i => exact k.deliverIdentity p i
  | pass payload => exact k.deliverPass p payload

/-- A port that enters REFUSING has its fault raised in the same event. -/
theorem onPortRaised (k : d.Keeps e) (p : Port) (f : LinkPort → LinkPort) : d.Keeps ((e.onPort p f).raise (.portFault p)) where
  maps := k.maps
  balanced := k.balanced
  ordered := k.ordered
  shows := k.shows.trans
    { grows := fun source flag => ((e.onPort p f).flagged_raise _ source).2 (.inl flag)
      covers := fun source holds => by
        cases source with
        | portFault q =>
          by_cases at_ : q = p
          · exact .inr (((e.onPort p f).flagged_raise _ _).2 (.inr (at_ ▸ rfl)))
          · refine .inl ?_
            simpa [Device.conditionHolds, PerPort.get_set_other _ _ _ _ at_] using holds
        | _ => exact .inl holds }
  ranges := fun r => have s := k.ranges r; ⟨s.track, s.params, s.xfu, s.scans⟩
  bearings := fun b => have a := k.bearings b; ⟨a.answered, a.asked⟩

theorem endFrame (k : d.Keeps e) (p : Port) (chars : List LineChar) (ending : FrameEnd) : d.Keeps (e.endFrame p chars ending) := by
  unfold Device.endFrame
  split
  · exact k.onPortRaised p _
  · exact k.onPort p id
  · exact Device.Keeps.deliver (k.onPort p id) p _

theorem sendDelivered (k : d.Keeps e) (p : Port) : d.Keeps (e.sendDelivered p) := Device.Keeps.quietBoundary (k.onPort p id) p

theorem sendUndelivered (k : d.Keeps e) (p : Port) (f : InFlight) : d.Keeps (e.sendUndelivered p f) :=
  Device.Keeps.orderUndelivered (Device.Keeps.quietBoundary (k.onPort p id) p) p f

theorem takeAnswer (k : d.Keeps e) (p : Port) (a : LinkAnswer) : d.Keeps (e.takeAnswer p a) := by
  unfold Device.takeAnswer
  split
  · cases a with
    | ack => exact k.sendDelivered p
    | nak => exact k.sendUndelivered p _
  · exact k.onPort p id

theorem linkUp (k : d.Keeps e) (p : Port) : d.Keeps (e.linkUp p) :=
  Device.Keeps.stationLinkUp (k.onPort p fun h => by simp at h) p

theorem silenceTimeout (k : d.Keeps e) (p : Port) : d.Keeps (e.silenceTimeout p) := by
  unfold Device.silenceTimeout Device.silenceExpires
  repeat' split
  · exact k.onPort p id
  · exact Device.Keeps.stationLinkDown (k.onPort p fun h => by simp [LinkPort.enterDown] at h) p
  · exact k

theorem trainOn (k : d.Keeps e) (p : Port) (c : LineChar) : d.Keeps (e.trainOn p c) := by
  unfold Device.trainOn
  repeat' split
  · exact k.onPort p id
  · exact k.linkUp p
  · exact k.onPort p id

theorem refuseOn (k : d.Keeps e) (p : Port) (c : LineChar) : d.Keeps (e.refuseOn p c) := by
  unfold Device.refuseOn
  split
  · exact k.onPort p id
  · exact k.onPort p id
  · exact Device.Keeps.joinAcquire (k.onPort p fun h => by simp at h) p _
  · exact k.takeAnswer p _
  · exact k.takeAnswer p _
  · exact k
  · exact k

theorem betweenOn (k : d.Keeps e) (p : Port) (c : LineChar) : d.Keeps (e.betweenOn p c) := by
  unfold Device.betweenOn
  split
  · exact k.onPort p id
  · exact k.takeAnswer p _
  · exact k.takeAnswer p _
  · exact k
  · exact k
  · exact k
  · exact k

theorem inFrameOn (k : d.Keeps e) (p : Port) (chars : List LineChar) (c : LineChar) : d.Keeps (e.inFrameOn p chars c) := by
  unfold Device.inFrameOn
  split
  · exact k.endFrame p chars _
  · exact (k.endFrame p chars _).refuseOn p c
  · exact k.onPort p id
  · exact k.takeAnswer p _
  · exact k.takeAnswer p _
  · exact k
  · simp only [Device.collect]
    split
    · exact k.endFrame p _ _
    · exact k.onPort p id

theorem receive (k : d.Keeps e) (p : Port) (c : LineChar) : d.Keeps (e.receive p c) := by
  have heard : d.Keeps (e.onPort p fun l => { l with silence := some (timeAfter e.tb Config.silenceTime) }) := k.onPort p id
  simp only [Device.receive]
  split
  · exact heard.trainOn p c
  · exact heard.refuseOn p c
  · exact heard.betweenOn p c
  · exact heard.inFrameOn p _ c

theorem receiveAll (k : d.Keeps e) (p : Port) (chars : List LineChar) : d.Keeps (e.receiveAll p chars) :=
  k.foldl (fun g c => (refl g).receive p c) chars

theorem takeFrame (k : d.Keeps e) (p : Port) : d.Keeps (e.onPort p LinkPort.takeFrame) :=
  k.onPort p fun h => by rwa [LinkPort.takeFrame_state] at h

theorem eofGone (k : d.Keeps e) (p : Port) (now : Word) : d.Keeps (e.onPort p fun l => l.eofGone now) := by
  refine k.onPort p fun h => ?_
  unfold LinkPort.eofGone at h
  split at h
  · exact h
  · exact h

theorem answerTimeout (k : d.Keeps e) (p : Port) : d.Keeps (e.answerTimeout p) := by
  unfold Device.answerTimeout Device.answerExpires
  repeat' split
  · exact k.sendUndelivered p _
  · exact k
  · exact k

/-! ## The transform unit -/

theorem grant (k : d.Keeps e) : d.Keeps e.grant := by
  unfold Device.grant
  split
  · next p _ _ =>
    split
    · next entry rest waiting =>
      refine k.onXfu fun b => Xfu.Bounded.startJob (Xfu.Bounded.rotate (b.setIngest p ?_) _) _ _
      have fits := b.ingest p
      rw [waiting] at fits
      exact Nat.le_of_succ_le fits
    · exact k
  · split
    · next r rest waiting =>
      refine k.onXfu fun b => Xfu.Bounded.startJob (Xfu.Bounded.rotate ?_ _) _ _
      have nodup := b.queries
      rw [waiting] at nodup
      exact ⟨b.outstanding, b.ingest, (List.nodup_cons.1 nodup).2⟩
    · exact k
  · exact k

theorem complete (k : d.Keeps e) : d.Keeps e.complete := by
  unfold Device.complete
  split
  · exact k
  · next op _ =>
    have counted : ∀ f : Xfu → Xfu, (∀ x, (f x).outstanding = x.outstanding ∧ (f x).ingest = x.ingest ∧
        (f x).queryQueue = x.queryQueue) → d.Keeps ((e.onXfu fun x => { x with operation := none }).onXfu f) := fun f same =>
      Device.Keeps.onXfu (k.onXfu (f := fun x => { x with operation := none }) fun b => b.of_fields ⟨rfl, rfl, rfl⟩)
        fun b => b.of_fields (same _)
    split
    · refine Device.Keeps.routeResult (counted _ fun x => ?_) (Vec3.saturate32_inRange _)
      unfold Xfu.countForward
      split <;> exact ⟨rfl, rfl, rfl⟩
    · next q _ _ =>
      have at_ := counted (fun x => x.countInverse (op.values.inverse q.point).overflows32) fun x => by
        unfold Xfu.countInverse
        split <;> exact ⟨rfl, rfl, rfl⟩
      split
      · exact at_.queryResult ..
      · exact at_.searchResult ..

theorem setPairMode (k : d.Keeps e) (on : Bool) : d.Keeps (e.onXfu fun x => x.setPairMode on) := by
  refine k.onXfu fun b => ?_
  unfold Xfu.setPairMode
  split
  · exact b.of_fields ⟨rfl, rfl, rfl⟩
  · exact b.of_fields ⟨rfl, rfl, rfl⟩

theorem setOutstanding (k : d.Keeps e) (p : Port) {limit : Nat} (range : 1 ≤ limit ∧ limit ≤ 3) :
    d.Keeps (e.setOutstanding p limit) := by
  simp only [Device.setOutstanding]
  refine Device.Keeps.onStationCounters (k.onXfu fun b => ⟨fun q => ?_, fun q => ?_, b.queries⟩) p _
  · rw [PerPort.get_set]
    split
    · exact range
    · exact b.outstanding q
  · rw [PerPort.get_set, PerPort.get_set]
    split
    · rw [List.length_drop]
      omega
    · exact b.ingest q

/-! ## The requests to the sight map unit -/

theorem takeLookup (k : d.Keeps e) (p : Port) : d.Keeps (e.takeLookup p) := by
  refine k.onSmu ⟨rfl, rfl, rfl⟩ (fun s mem _ at_ => .inr ⟨s, mem, at_⟩) fun l mem fresh => .inr ?_
  rcases mem_changeFirst mem with old | ⟨l', old, rfl⟩
  · exact ⟨l, old, fresh, rfl⟩
  · exact ⟨l', old, fresh, rfl⟩

theorem takeScan (k : d.Keeps e) : d.Keeps e.takeScan := by
  refine k.onSmu ⟨rfl, rfl, rfl⟩ (fun s mem r at_ => ?_) fun l mem fresh => .inr ⟨l, mem, fresh, rfl⟩
  rcases mem_changeFirst mem with old | ⟨s', -, rfl⟩
  · exact .inr ⟨s, old, at_⟩
  · obtain rfl := Option.some.inj at_
    exact .inl (Smu.scan_inRange _ _)

/-! ## The time base, the registers and the commands -/

/-- The fields that no law speaks of: the time base and the roll call. -/
theorem onClock (k : d.Keeps e) (tb : Word) (roll : RollCall) : d.Keeps { e with tb := tb, roll := roll } where
  maps := k.maps
  balanced := k.balanced
  ordered := k.ordered
  shows := k.shows.trans (.of_calm rfl rfl fun _ => id)
  ranges := fun r => have s := k.ranges r; ⟨s.track, s.params, s.xfu, s.scans⟩
  bearings := fun b => have a := k.bearings b; ⟨a.answered, a.asked⟩

theorem tick (d : Device) : d.Keeps d.tick where
  maps := ⟨rfl, rfl, rfl⟩
  balanced := id
  ordered := id
  shows := .of_calm rfl rfl fun p h => by
    have sent : (d.tick.ports.get p) = (d.ports.get p).sendCharacter := PerPort.get_map ..
    rwa [sent, (LinkPort.sendCharacter_leaves _).1] at h
  ranges := fun s => ⟨s.track, s.params, s.xfu, s.scans⟩
  bearings := fun a => ⟨a.answered, a.asked⟩

/-- The notice mask and the enable changed. -/
theorem onMask (d : Device) (mask : BitVec 14) (enabled : Bool) :
    d.Keeps { d with notices := { d.notices with mask := mask, enabled := enabled } } :=
  (refl d).ofEngine ⟨rfl, rfl, rfl, rfl, rfl⟩ id id (.of_calm rfl rfl fun _ => id)

theorem writeParams (d : Device) (i : Nat) (w : Word) : d.Keeps { d with params := d.params.write i w } where
  maps := ⟨rfl, rfl, rfl⟩
  balanced := id
  ordered := id
  shows := .of_calm rfl rfl fun _ => id
  ranges := fun s => by
    refine ⟨s.track, ?_, s.xfu, s.scans⟩
    have p := s.params
    have clamp : ∀ lo hi, lo ≤ hi → lo ≤ clampWord lo hi w ∧ clampWord lo hi w ≤ hi := fun lo hi h => clampNat_mem h _
    unfold Params.write
    split
    · exact { p with alpha := clamp _ _ (by decide) }
    · exact { p with beta := (clamp 0 _ (by decide)).2 }
    · exact { p with gate := clamp _ _ (by decide) }
    · exact { p with outlierLimit := clamp _ _ (by decide) }
    · exact { p with gap := clamp _ _ (by decide) }
    · exact { p with lookahead := (clamp 0 _ (by decide)).2 }
    · exact { p with suspectLimit := clamp _ _ (by decide) }
    · exact { p with outputInterval := clamp _ _ (by decide) }
    · exact { p with queryInterval := clamp _ _ (by decide) }
    · exact { p with bearingMaxAge := clamp _ _ (by decide) }
    · exact { p with handoffTimeout := clamp _ _ (by decide) }
    · exact { p with handoffGate := clamp _ _ (by decide) }
    · exact { p with holdOff := (clamp 0 _ (by decide)).2 }
    · exact { p with }
    · exact { p with coastTime := (clamp 0 _ (by decide)).2 }
    · exact { p with searchTime := clamp _ _ (by decide) }
    · exact { p with searchRadius := clamp _ _ (by decide) }
    · exact p
  bearings := fun a => ⟨a.answered, a.asked⟩

theorem requestQuiet (k : d.Keeps e) (p : Port) (value : Bool) : d.Keeps (e.requestQuiet p value) := by
  unfold Device.requestQuiet
  simp only []
  repeat' split
  · exact k
  · exact k.onStation p ⟨rfl, rfl⟩
  · exact k.setQuiet p value

end Device.Keeps

end Sys2Proof.Machine
end

section
/-! PROOFS. What the register window makes of a write, command by command, and the laws that every event keeps: O7, O8, O10 to O13, O31. -/

namespace Sys2Proof.Machine

/-! ## A write of the command register and of the window, as commands of their own (R186, R189) -/

/-- Whether a command is more than a write of the command register or of the window. -/
def Instr.direct : Instr → Bool
  | .registerWrite _ _ | .unknownCommandCode _ => false
  | _ => true

/-- Whether a command is the action of some register write. -/
def Instr.registerAction : Instr → Bool
  | .busWidthClear | .softReset _ | .noticeFlagClear _ | .noticeMaskWrite _ | .noticeControlWrite _ | .rollWrite _
  | .pairModeWrite _ | .mailboxRelease .. | .portFlagClear .. | .enable .. | .disable .. | .engineReset ..
  | .engineControlSettings .. => true
  | _ => false

/-- A write of the command register is the command its code names, or is refused with VALUE (R188, R189). -/
theorem Device.writeCommand_cases (d : Device) (code : Byte) :
    (∃ c, (code, c) ∈ commandTable ∧ d.writeCommand code = Instr.effect c d) ∨
      (code.toNat ∉ commandCodes ∧ d.writeCommand code = d.command code fun _ => .refused .value) := by
  have known : ∀ (b : Byte) (c : Instr), code.toNat = b.toNat → (b, c) ∈ commandTable → d.writeCommand b = Instr.effect c d →
      ∃ c, (code, c) ∈ commandTable ∧ d.writeCommand code = Instr.effect c d := by
    intro b c same mem at_
    obtain rfl := BitVec.eq_of_toNat_eq same
    exact ⟨c, mem, at_⟩
  by_cases mem : code.toNat ∈ commandCodes
  · refine .inl ?_
    simp only [commandCodes, List.mem_cons, List.not_mem_nil, or_false] at mem
    rcases mem with h | h | h | h | h | h | h | h | h | h | h | h | h | h | h | h | h | h
    · exact known 0x01 .arm h (by simp [commandTable]) rfl
    · exact known 0x02 .cancel h (by simp [commandTable]) rfl
    · exact known 0x03 .handoffTo h (by simp [commandTable]) rfl
    · exact known 0x10 .loadTransform h (by simp [commandTable]) rfl
    · exact known 0x11 .unloadTransform h (by simp [commandTable]) rfl
    · exact known 0x12 .setQuiet h (by simp [commandTable]) rfl
    · exact known 0x13 .setLearning h (by simp [commandTable]) rfl
    · exact known 0x14 .setOutstanding h (by simp [commandTable]) rfl
    · exact known 0x20 .mapFill h (by simp [commandTable]) rfl
    · exact known 0x21 .mapCopy h (by simp [commandTable]) rfl
    · exact known 0x22 .mapLine h (by simp [commandTable]) rfl
    · exact known 0x23 .mapRun h (by simp [commandTable]) rfl
    · exact known 0x24 .mapClear h (by simp [commandTable]) rfl
    · exact known 0x25 .mapAbort h (by simp [commandTable]) rfl
    · exact known 0x30 .passSend h (by simp [commandTable]) rfl
    · exact known 0x40 .roeStart h (by simp [commandTable]) rfl
    · exact known 0x41 .roeFlush h (by simp [commandTable]) rfl
    · exact known 0x42 .roeResume h (by simp [commandTable]) rfl
  · refine .inr ⟨mem, ?_⟩
    simp only [commandCodes, List.mem_cons, List.not_mem_nil, or_false, not_or] at mem
    unfold Device.writeCommand
    split <;> simp_all

/-- What a write of a register that stores its value may change: the parameters, the bus interface, the peek selector, the windows. -/
inductive Device.Stored (d : Device) : Device → Prop
  | sbi (f : Sbi → Sbi) : Device.Stored d (d.onSbi f)
  | params (i : Nat) (w : Word) : Device.Stored d { d with params := d.params.write i w }
  | peek (k : PeekSelector) : Device.Stored d (d.onSmu fun m => { m with peek := k })
  | window0 (i : Nat) (w : Word) : Device.Stored d (d.onEngine fun e => { e with window0 := e.window0.write i w })
  | window1 (i : Nat) (w : Word) : Device.Stored d (d.onEngine fun e => { e with window1 := e.window1.write i w })

/-- What a write of the window can make of the part: it is discarded, it writes the command register, it is the action of its register,
or it is stored (R186, R187). -/
inductive Device.Written (d : Device) (o : BitVec 12) (w : Word) : Device → Prop
  | discarded : Device.Written d o w d
  | command (at_ : o = 0x004) : Device.Written d o w (d.writeCommand (w.extractLsb' 0 8))
  | action (c : Instr) (acts : Instr.registerAction c = true) : Device.Written d o w (Instr.effect c d)
  | stored (e : Device) (at_ : d.Stored e) : Device.Written d o w e

theorem Device.Written.ite {d a b : Device} {o : BitVec 12} {w : Word} {c : Prop} [Decidable c] (then_ : c → d.Written o w a)
    (else_ : d.Written o w b) : d.Written o w (if c then a else b) := by
  by_cases h : c
  · rw [if_pos h]; exact then_ h
  · rw [if_neg h]; exact else_

/-- The control word's write is the action of its lowest-ranking set bit, or stores the settings alone (R169). -/
theorem Device.engineControl_written (d : Device) (o : BitVec 12) (w : Word) : d.Written o w (d.engineControl w) :=
  .ite (fun _ => .action (.engineReset (w.getLsbD 8) (w.getLsbD 9)) rfl) <|
  .ite (fun _ => .action (.disable (w.getLsbD 8) (w.getLsbD 9)) rfl) <|
  .ite (fun _ => .action (.enable (w.getLsbD 8) (w.getLsbD 9)) rfl) <|
  .action (.engineControlSettings (w.getLsbD 8) (w.getLsbD 9)) rfl

theorem Device.writeWord_written (d : Device) (o : BitVec 12) (w : Word) : d.Written o w (d.writeWord o w) :=
  .ite (fun _ => .discarded) <|
  .ite (fun _ => .ite (fun _ => .action .busWidthClear rfl) .discarded) <|
  .ite (fun at_ => .command (BitVec.eq_of_toNat_eq at_)) <|
  .ite (fun _ => .ite (fun _ => .action (.softReset (w.getLsbD 1)) rfl) .discarded) <|
  .ite (fun _ => .action (.noticeFlagClear w) rfl) <|
  .ite (fun _ => .action (.noticeMaskWrite w) rfl) <|
  .ite (fun _ => .action (.noticeControlWrite w) rfl) <|
  .ite (fun _ => .action (.rollWrite w) rfl) <|
  .ite (fun _ => .stored _ (.sbi _)) <|
  .ite (fun _ => .stored _ (.sbi _)) <|
  .ite (fun _ => .stored _ (.params _ w)) <|
  .ite (fun _ => .action (.pairModeWrite w) rfl) <|
  .ite (fun _ => .action (.mailboxRelease _ w) rfl) <|
  .ite (fun _ => .action (.portFlagClear _ w) rfl) <|
  .ite (fun _ => .stored _ (.peek _)) <|
  .ite (fun _ => d.engineControl_written o w) <|
  .ite (fun _ => .stored _ (.window0 _ w)) <|
  .ite (fun _ => .stored _ (.window1 _ w)) <|
  .discarded

/-- The commands of the dispatch table and the actions of registers are direct. -/
theorem Instr.direct_of_registerAction {c : Instr} (h : Instr.registerAction c = true) : Instr.direct c = true := by
  cases c <;> simp_all [Instr.registerAction, Instr.direct]

theorem Instr.direct_of_table {code : Byte} {c : Instr} (h : (code, c) ∈ commandTable) : Instr.direct c = true := by
  have all : ∀ e ∈ commandTable, Instr.direct e.2 = true := by decide
  exact all _ h

/-- A property of every direct command's effect, and of what a register write stores, is one of every command's effect. -/
theorem Instr.effect_of_direct {P : Device → Prop} {d : Device} (same : P d)
    (direct : ∀ c, Instr.direct c = true → P (Instr.effect c d)) (stored : ∀ e, d.Stored e → P e) (c : Instr) :
    P (Instr.effect c d) := by
  have written : ∀ code, P (d.writeCommand code) := by
    intro code
    rcases d.writeCommand_cases code with ⟨c, mem, at_⟩ | ⟨-, at_⟩ <;> rw [at_]
    · exact direct c (Instr.direct_of_table mem)
    · rcases d.command_cases code fun _ => .refused .value with ⟨-, at_⟩ | ⟨-, ⟨_, no, -⟩ | ⟨_, -, at_⟩ | ⟨_, no, -⟩⟩
      · exact at_ ▸ stored _ (.sbi _)
      · simp at no
      · exact at_ ▸ stored _ (.sbi _)
      · simp at no
  by_cases is : Instr.direct c = true
  · exact direct c is
  · cases c with
    | registerWrite o w =>
      show P (d.writeWord o w)
      have wrote := d.writeWord_written o w
      generalize d.writeWord o w = e at wrote
      cases wrote with
      | discarded => exact same
      | command => exact written _
      | action c acts => exact direct c (Instr.direct_of_registerAction acts)
      | stored _ at_ => exact stored _ at_
    | unknownCommandCode code => exact written code
    | _ => exact absurd rfl is

/-! ## What the commands keep -/

theorem Device.Keeps.stored {d e : Device} (h : d.Stored e) : d.Keeps e := by
  cases h with
  | sbi f => exact (Device.Keeps.refl d).onSbi f
  | params i w => exact .writeParams d i w
  | peek k =>
    exact (Device.Keeps.refl d).onSmu ⟨rfl, rfl, rfl⟩ (fun s mem _ at_ => .inr ⟨s, mem, at_⟩)
      fun l mem fresh => .inr ⟨l, mem, fresh, rfl⟩
  | window0 i w =>
    exact (Device.Keeps.refl d).ofEngine ⟨rfl, rfl, rfl, rfl, rfl⟩ (fun b => b.of_ledger ⟨rfl, rfl, rfl, rfl⟩)
      (fun o => ⟨o.buffer, o.writing, o.closing, o.rereading, o.flushing, o.disabled, o.held⟩) (.of_calm rfl rfl fun _ => id)
  | window1 i w =>
    exact (Device.Keeps.refl d).ofEngine ⟨rfl, rfl, rfl, rfl, rfl⟩ (fun b => b.of_ledger ⟨rfl, rfl, rfl, rfl⟩)
      (fun o => ⟨o.buffer, o.writing, o.closing, o.rereading, o.flushing, o.disabled, o.held⟩) (.of_calm rfl rfl fun _ => id)

/-- A command of the command register keeps what its block's judgement keeps. -/
theorem Device.Keeps.command {d : Device} (code : Byte) {judge : Device → CommandResult}
    (h : ∀ e, judge d = .taken e ∨ judge d = .held e → d.Keeps e) : d.Keeps (d.command code judge) := by
  rcases d.command_cases code judge with ⟨-, at_⟩ | ⟨-, ⟨e, took, at_⟩ | ⟨_, -, at_⟩ | ⟨e, took, at_⟩⟩ <;> rw [at_]
  · exact (Device.Keeps.refl d).onSbi _
  · exact (h e (.inl took)).onSbi _
  · exact (Device.Keeps.refl d).onSbi _
  · exact (h e (.inr took)).onSbi _

end Sys2Proof.Machine
end

section
/-! PROOFS. The sight maps' own work (R80, R83 to R86, R93 to R102): what it keeps of the maps, and what it leaves of the rest. -/

namespace Sys2Proof.Machine

/-! ## Cells written within the maps -/

/-- What stands in a written list of cells is the cell written, or stood there. -/
theorem mem_writeCell {cells : List (Nat × CellState)} {a : Nat} {v : CellState} {c : Nat × CellState} (h : c ∈ writeCell cells a v) :
    c.1 = a ∨ c ∈ cells := by
  induction cells with
  | nil =>
    rw [writeCell] at h
    split at h
    · simp at h
    · exact .inl (by rw [List.mem_singleton.1 h])
  | cons b rest ih =>
    obtain ⟨b, w⟩ := b
    rw [writeCell] at h
    split_ifs at h
    · exact .inr h
    · exact (List.mem_cons.1 h).imp (fun at_ => by rw [at_]) id
    · exact .inr (List.mem_cons_of_mem _ h)
    · exact (List.mem_cons.1 h).imp (fun at_ => by rw [at_]) (List.mem_cons_of_mem _)
    · rcases List.mem_cons.1 h with at_ | inside
      · exact .inr (at_ ▸ List.mem_cons_self)
      · exact (ih inside).imp id (List.mem_cons_of_mem _)

/-- The cells of the maps in their one form, within the four maps. -/
structure CellsKept (cells : List (Nat × CellState)) : Prop where
  wellFormed : cellsWellFormed cells = true
  inside : ∀ c ∈ cells, c.1 < Config.allCells

theorem CellsKept.write {cells : List (Nat × CellState)} (h : CellsKept cells) {a : Nat} (at_ : a < Config.allCells) (v : CellState) :
    CellsKept (writeCell cells a v) where
  wellFormed := writeCell_wellFormed a v h.wellFormed
  inside := fun c mem => by
    rcases mem_writeCell mem with rfl | old
    · exact at_
    · exact h.inside c old

theorem CellsKept.learn {m : Smu} (h : CellsKept m.cells) (r : LearnRequest) : CellsKept (m.learn r).cells := by
  rcases m.learn_cases r with ⟨same, -⟩ | ⟨a, cell, wrote⟩
  · rwa [same]
  · rw [wrote]
    refine h.write ?_ _
    have := bearingCell_lt _ _ _ a cell
    have := r.station.isLt
    simp only [Config.allCells]
    omega

theorem Smu.Kept.cellsKept {m : Smu} (h : m.Kept) : CellsKept m.cells := ⟨h.wellFormed, h.inside⟩

/-- Maps with no command running, beside the same sweep. -/
theorem Smu.Kept.of_idle {m n : Smu} (h : m.Kept) (cells : CellsKept n.cells) (sweep : n.sweep = m.sweep) (running : n.running = none) :
    n.Kept where
  wellFormed := cells.wellFormed
  inside := cells.inside
  sweep := fun a at_ => h.sweep a (sweep ▸ at_)
  idle := fun _ => running
  running := fun c at_ => by rw [running] at at_; cases at_

/-- The running command as it was, or stepped on, beside the same sweep. -/
theorem Smu.Kept.of_same {m n : Smu} (h : m.Kept) (cells : CellsKept n.cells) (sweep : n.sweep = m.sweep)
    (running : n.running = m.running) : n.Kept where
  wellFormed := cells.wellFormed
  inside := cells.inside
  sweep := fun a at_ => h.sweep a (sweep ▸ at_)
  idle := fun at_ => running ▸ h.idle (sweep ▸ at_)
  running := fun c at_ => h.running c (running ▸ at_)

/-! ## What the maps' work leaves -/

/-- The maps' own work: it changes the cells, the sweep, the running command, the map status, the latches and the learning requests;
it may raise MAP_DONE and set the command status. -/
structure Device.MapWork (d e : Device) : Prop where
  track : e.track = d.track
  params : e.params = d.params
  stations : e.stations = d.stations
  xfu : e.xfu = d.xfu
  ports : e.ports = d.ports
  engine : e.engine = d.engine
  lookups : e.smu.lookups = d.smu.lookups
  scans : e.smu.scans = d.smu.scans
  flags : ∀ source, d.flagged source → e.flagged source
  kept : d.smu.Kept → e.smu.Kept

namespace Device.MapWork

variable {d e : Device}

/-- The sight map unit changed, its lookups and scans as they were. -/
theorem onSmu (d : Device) {f : Smu → Smu} (lookups : (f d.smu).lookups = d.smu.lookups) (scans : (f d.smu).scans = d.smu.scans)
    (kept : d.smu.Kept → (f d.smu).Kept) : d.MapWork (d.onSmu f) :=
  ⟨rfl, rfl, rfl, rfl, rfl, rfl, lookups, scans, fun _ => id, kept⟩

theorem onSbi (k : d.MapWork e) (f : Sbi → Sbi) : d.MapWork (e.onSbi f) :=
  ⟨k.track, k.params, k.stations, k.xfu, k.ports, k.engine, k.lookups, k.scans, k.flags, k.kept⟩

theorem raise (k : d.MapWork e) (n : Notice) : d.MapWork (e.raise n) :=
  ⟨k.track, k.params, k.stations, k.xfu, k.ports, k.engine, k.lookups, k.scans,
    fun source flag => (e.flagged_raise n source).2 (.inl (k.flags source flag)), k.kept⟩

theorem refl (d : Device) : d.MapWork d := ⟨rfl, rfl, rfl, rfl, rfl, rfl, rfl, rfl, fun _ => id, id⟩

theorem shows (k : d.MapWork e) : d.Shows e where
  grows := k.flags
  covers := fun source holds => .inl <| by
    have same : e.conditionHolds source = d.conditionHolds source := by
      cases source <;> simp [Device.conditionHolds, k.ports, k.engine]
    rwa [← same]

theorem ranges (k : d.MapWork e) (h : d.RangesHold) : e.RangesHold :=
  ⟨k.track ▸ h.track, k.params ▸ h.params, k.xfu ▸ h.xfu, by rw [k.scans]; exact h.scans⟩

theorem bearings (k : d.MapWork e) (h : d.BearingsAgree) : e.BearingsAgree :=
  ⟨by rw [k.stations]; exact h.answered, by rw [k.lookups, k.stations]; exact h.asked⟩

end Device.MapWork

/-! ## Latches, learning and the end of a command (R83, R86, R95) -/

/-- A latch applied: what learning leaves, and the cells by learning. -/
theorem Smu.applyLatch_leaves (m : Smu) (p : Port) :
    (m.applyLatch p).sweep = m.sweep ∧ (m.applyLatch p).running = m.running ∧ (m.applyLatch p).lookups = m.lookups ∧
      (m.applyLatch p).scans = m.scans := by
  unfold Smu.applyLatch
  split
  · next r _ => rcases m.learn_cases r with ⟨same, -⟩ | ⟨a, -, wrote⟩ <;> simp [*]
  · simp

theorem CellsKept.applyLatch {m : Smu} (h : CellsKept m.cells) (p : Port) : CellsKept (m.applyLatch p).cells := by
  rw [m.applyLatch_cells p]
  split
  · exact h.learn _
  · exact h

/-- The latches of several stations applied. -/
theorem Smu.applyLatches_keeps (m : Smu) (l : List Port) (h : CellsKept m.cells) :
    CellsKept (l.foldl Smu.applyLatch m).cells ∧ (l.foldl Smu.applyLatch m).sweep = m.sweep ∧
      (l.foldl Smu.applyLatch m).running = m.running := by
  induction l generalizing m with
  | nil => exact ⟨h, rfl, rfl⟩
  | cons p l ih =>
    obtain ⟨sweep, running, -⟩ := m.applyLatch_leaves p
    obtain ⟨cells, sweep', running'⟩ := ih (m.applyLatch p) (h.applyLatch p)
    exact ⟨cells, sweep'.trans sweep, running'.trans running⟩

theorem Smu.applyLatches_leaves (m : Smu) (l : List Port) :
    (l.foldl Smu.applyLatch m).lookups = m.lookups ∧ (l.foldl Smu.applyLatch m).scans = m.scans := by
  induction l generalizing m with
  | nil => exact ⟨rfl, rfl⟩
  | cons p l ih =>
    obtain ⟨-, -, lookups, scans⟩ := m.applyLatch_leaves p
    exact ⟨(ih _).1.trans lookups, (ih _).2.trans scans⟩

/-- A part whose maps are kept but for a command that runs past its cells ends it. -/
theorem Device.MapWork.endMapCommand (d : Device) {f : Smu → Smu} (lookups : (f d.smu).lookups = d.smu.lookups)
    (scans : (f d.smu).scans = d.smu.scans) (sweep : (f d.smu).sweep = d.smu.sweep)
    (cells : d.smu.Kept → CellsKept (f d.smu).cells) {c : RunningCommand} (running : (f d.smu).running = some c)
    (result : MapResult) : d.MapWork ((d.onSmu f).endMapCommand result) := by
  have at_ : (d.onSmu f).smu.running = some c := running
  unfold Device.endMapCommand
  rw [at_]
  refine Device.MapWork.raise (Device.MapWork.onSmu d (f := fun m => _) ?_ ?_ ?_) _
  · exact (Smu.applyLatches_leaves _ _).1.trans lookups
  · exact (Smu.applyLatches_leaves _ _).2.trans scans
  · intro kept
    obtain ⟨cells', sweep', running'⟩ := Smu.applyLatches_keeps
      { f d.smu with running := none, status := { (f d.smu).status with result := result } }
      (allPorts.filter c.command.holds) (cells kept)
    exact kept.of_idle cells' (sweep'.trans sweep) running'

theorem Device.MapWork.takeLearning (d : Device) (source : LearnSource) : d.MapWork (d.takeLearning source) := by
  unfold Device.takeLearning
  split
  · next r _ =>
    have judged : ∀ (m : Smu) (on : Bool), (m.judgeLearning on r).lookups = m.lookups ∧ (m.judgeLearning on r).scans = m.scans ∧
        (m.judgeLearning on r).sweep = m.sweep ∧ (m.judgeLearning on r).running = m.running ∧
        (CellsKept m.cells → CellsKept (m.judgeLearning on r).cells) := by
      intro m on
      rcases m.judgeLearning_cases on r with same | same | same <;> rw [same]
      · simp
      · simp [Smu.latch]
      · rcases m.learn_cases r with ⟨idle, -⟩ | ⟨a, -, wrote⟩
        · simp [idle]
        · exact ⟨by rw [wrote], by rw [wrote], by rw [wrote], by rw [wrote], fun h => h.learn r⟩
    obtain ⟨lookups, scans, sweep, running, cells⟩ := judged
      { d.smu with learnQueue := d.smu.learnQueue.eraseP fun r => decide (r.source = source) }
      (d.stations.get r.station).learning
    exact .onSmu d (f := fun m => ({ m with learnQueue := m.learnQueue.eraseP fun r => decide (r.source = source) }).judgeLearning
      (d.stations.get r.station).learning r) lookups scans fun h => h.of_same (cells h.cellsKept) sweep running
  · exact .refl d

/-! ## The steps (R80, R94, R100) -/

theorem Device.MapWork.sweepStep (d : Device) : d.MapWork d.sweepStep := by
  unfold Device.sweepStep
  split
  · exact .refl d
  · next a sweep =>
    refine .onSmu d rfl rfl fun h => ?_
    have cells := h.cellsKept.write (h.sweep a sweep) .unknown
    have idle : d.smu.running = none := h.idle (by rw [sweep]; rfl)
    refine ⟨cells.wellFormed, cells.inside, fun b at_ => ?_, fun _ => idle, fun c at_ => ?_⟩
    · simp only at at_
      split at at_
      · next more => exact Option.some.inj at_ ▸ more
      · simp at at_
    · rw [idle] at at_
      cases at_

/-- A running command stepped on to a cell that it has still to visit. -/
theorem Smu.Kept.stepped {m n : Smu} (h : m.Kept) {c : RunningCommand} (running : m.running = some c) (cells : CellsKept n.cells)
    (sweep : n.sweep = m.sweep) (now : n.running = some { c with visited := c.visited + 1 })
    (unfinished : c.command.finished (c.visited + 1) = false) : n.Kept where
  wellFormed := cells.wellFormed
  inside := cells.inside
  sweep := fun a at_ => h.sweep a (sweep ▸ at_)
  idle := fun at_ => by
    have := h.idle (sweep ▸ at_)
    rw [running] at this
    cases this
  running := fun b at_ => by
    obtain rfl := Option.some.inj (now.symm.trans at_)
    exact ⟨(h.running c running).inRange, unfinished⟩

/-- A command that reads is a MAP_RUN, which is finished at its limit alone. -/
theorem MapCommand.finished_of_reads {c : MapCommand} {k : Nat} {av : Nat × CellState} (h : c.reads k = some av) (n : Nat) :
    c.finished n = decide (c.length ≤ n) := by
  cases c <;> simp_all [MapCommand.reads, MapCommand.finished]

theorem Device.MapWork.mapStep (d : Device) : d.MapWork d.mapStep := by
  unfold Device.mapStep
  split
  · exact .refl d
  · next c running =>
    split
    · next a v reads =>
      simp only [Device.runStep]
      repeat' split
      · exact Device.MapWork.endMapCommand d
          (f := fun m => { m with running := some { c with visited := c.visited + 1 },
                                  status := { m.status with runCount := m.status.runCount + 1, runStop := .limit, runStopColumn := _ } })
          rfl rfl rfl Smu.Kept.cellsKept rfl _
      · next more =>
        refine .onSmu d rfl rfl fun h => h.stepped running h.cellsKept rfl rfl ?_
        rw [MapCommand.finished_of_reads reads]
        simpa using more
      · exact Device.MapWork.endMapCommand d 
          (f := fun m => { m with status := { m.status with runStop := .different, runStopColumn := a % 512 } })
          rfl rfl rfl Smu.Kept.cellsKept running _
    · split
      · next a v writes =>
        have cells : d.smu.Kept → CellsKept (writeCell d.smu.cells a v) := fun h =>
          h.cellsKept.write (RunningCommand.writes_lt (h.running c running) writes) v
        simp only [Device.writeStep]
        split
        · exact Device.MapWork.endMapCommand d
            (f := fun m => { m with cells := writeCell m.cells a v, running := some { c with visited := c.visited + 1 },
                                    status := { m.status with cellsWritten := m.status.cellsWritten + 1 } })
            rfl rfl rfl cells rfl _
        · next more =>
          exact .onSmu d rfl rfl fun h => h.stepped running (cells h) rfl rfl (by simpa using more)
      · exact .refl d

/-! ## The map commands (R93, R94, R102) -/

/-- A map command taken is one whose parameters and codes are good, with neither a command nor the sweep running. -/
theorem Device.judgeMap_taken {d e : Device} {range : Bool} {command : Option MapCommand} (h : d.judgeMap range command = .taken e) :
    d.smu.busy = false ∧ range = true ∧ ∃ c, command = some c ∧ e = d.acceptMapCommand c := by
  unfold Device.judgeMap at h
  split_ifs at h with busy bad
  split at h
  · next c =>
    injection h with at_
    exact ⟨by simpa using busy, by simpa using bad, c, rfl, at_.symm⟩
  · cases h

theorem Device.judgeMap_not_held {d e : Device} {range : Bool} {command : Option MapCommand} : d.judgeMap range command ≠ .held e := by
  unfold Device.judgeMap
  repeat' split
  all_goals simp

/-- A command accepted with its parameters in range and a cell to visit. -/
theorem Device.MapWork.judgeMap {d e : Device} {range : Bool} {command : Option MapCommand}
    (runs : ∀ c, range = true → command = some c → (⟨c, 0⟩ : RunningCommand).Runs)
    (h : d.judgeMap range command = .taken e ∨ d.judgeMap range command = .held e) : d.MapWork e := by
  rcases h with took | held
  · obtain ⟨free, good, c, at_, rfl⟩ := Device.judgeMap_taken took
    rw [Smu.busy, Bool.or_eq_false_iff, Option.isSome_eq_false_iff, Option.isSome_eq_false_iff, Option.isNone_iff_eq_none,
      Option.isNone_iff_eq_none] at free
    refine .onSmu d rfl rfl fun h => ⟨h.wellFormed, h.inside, h.sweep, fun at_ => ?_, fun b now => ?_⟩
    · simp [free.2] at at_
    · obtain rfl := Option.some.inj now
      exact runs c good at_
  · exact absurd held Device.judgeMap_not_held

theorem rectangleInRange_iff (c r w h : Nat) :
    rectangleInRange c r w h = true ↔ c < 512 ∧ r < 128 ∧ 1 ≤ w ∧ w ≤ 512 ∧ 1 ≤ h ∧ h ≤ 128 ∧ r + h ≤ 128 := by
  simp [rectangleInRange, and_assoc]

theorem Device.MapWork.judgeMapFill {d e : Device} (h : d.judgeMapFill = .taken e ∨ d.judgeMapFill = .held e) : d.MapWork e := by
  refine Device.MapWork.judgeMap (fun c range at_ => ?_) h
  rw [Bool.and_eq_true, rectangleInRange_iff] at range
  obtain ⟨-, column, row, wide, narrow, high, low, fits⟩ := range
  simp only [Option.bind_eq_some_iff, Option.map_eq_some_iff] at at_
  obtain ⟨p, -, v, -, rfl⟩ := at_
  exact ⟨⟨column, wide, narrow, high, fits⟩, by simp [MapCommand.finished, MapCommand.length]; omega⟩

theorem Device.MapWork.judgeMapCopy {d e : Device} (h : d.judgeMapCopy = .taken e ∨ d.judgeMapCopy = .held e) : d.MapWork e := by
  refine Device.MapWork.judgeMap (fun c range at_ => ?_) h
  rw [Bool.and_eq_true, Bool.and_eq_true, rectangleInRange_iff, rectangleInRange_iff] at range
  obtain ⟨⟨-, column, row, wide, narrow, high, low, fits⟩, column', row', -, -, -, -, fits'⟩ := range
  simp only [Option.bind_eq_some_iff, Option.map_eq_some_iff] at at_
  obtain ⟨p, -, t, -, cd, -, rd, -, rfl⟩ := at_
  exact ⟨⟨column, column', wide, narrow, high, fits, fits'⟩, by simp [MapCommand.finished, MapCommand.length]; omega⟩

theorem Device.MapWork.judgeMapLine {d e : Device} (h : d.judgeMapLine = .taken e ∨ d.judgeMapLine = .held e) : d.MapWork e := by
  refine Device.MapWork.judgeMap (fun c range at_ => ?_) h
  simp only [Bool.and_eq_true, decide_eq_true_eq, Bool.not_eq_true', Bool.and_eq_false_iff, decide_eq_false_iff_not] at range
  obtain ⟨⟨⟨⟨⟨⟨⟨⟨⟨-, column⟩, row⟩, some_⟩, count⟩, left⟩, right⟩, up⟩, down⟩, moves⟩ := range
  simp only [Option.bind_eq_some_iff, Option.map_eq_some_iff] at at_
  obtain ⟨p, -, v, -, rfl⟩ := at_
  refine ⟨⟨column, row, some_, count, by omega, by omega, by tauto⟩, ?_⟩
  simp only [MapCommand.finished, MapCommand.length, lineRow, rowOnMap, Config.mapRows]
  simp
  omega

theorem Device.MapWork.judgeMapRun {d e : Device} (h : d.judgeMapRun = .taken e ∨ d.judgeMapRun = .held e) : d.MapWork e := by
  refine Device.MapWork.judgeMap (fun c range at_ => ?_) h
  simp only [Bool.and_eq_true, decide_eq_true_eq] at range
  obtain ⟨⟨⟨⟨-, column⟩, row⟩, some_⟩, limit⟩ := range
  simp only [Option.bind_eq_some_iff, Option.map_eq_some_iff] at at_
  obtain ⟨p, -, left, -, v, -, rfl⟩ := at_
  exact ⟨⟨column, row, some_, limit⟩, by simp [MapCommand.finished, MapCommand.length]; omega⟩

theorem MapCommand.clear_unfinished (station : Option Port) : (MapCommand.clear station).finished 0 = false := by
  cases station <;> simp [MapCommand.finished, MapCommand.length, Config.allCells, Config.mapCells]

theorem Device.MapWork.judgeMapClear {d e : Device} (h : d.judgeMapClear = .taken e ∨ d.judgeMapClear = .held e) : d.MapWork e := by
  unfold Device.judgeMapClear at h
  refine Device.MapWork.judgeMap (fun c _ at_ => ?_) h
  obtain rfl := Option.some.inj at_
  exact ⟨trivial, MapCommand.clear_unfinished _⟩

theorem Device.MapWork.judgeMapAbort {d e : Device} (h : d.judgeMapAbort = .taken e ∨ d.judgeMapAbort = .held e) : d.MapWork e := by
  unfold Device.judgeMapAbort at h
  split at h
  · next c running =>
    obtain rfl : d.abortMapCommand c = e := by simpa using h
    unfold Device.abortMapCommand
    split
    · exact Device.MapWork.endMapCommand d rfl rfl rfl Smu.Kept.cellsKept running _
    · exact Device.MapWork.endMapCommand d (f := id) rfl rfl rfl Smu.Kept.cellsKept running _
  · simp at h

theorem Device.MapWork.command {d : Device} (code : Byte) {judge : Device → CommandResult}
    (h : ∀ e, judge d = .taken e ∨ judge d = .held e → d.MapWork e) : d.MapWork (d.command code judge) := by
  rcases d.command_cases code judge with ⟨-, at_⟩ | ⟨-, ⟨e, took, at_⟩ | ⟨_, -, at_⟩ | ⟨e, took, at_⟩⟩ <;> rw [at_]
  · exact (Device.MapWork.refl d).onSbi _
  · exact (h e (.inl took)).onSbi _
  · exact (Device.MapWork.refl d).onSbi _
  · exact (h e (.inr took)).onSbi _

end Sys2Proof.Machine
end

section
/-! PROOFS. The laws that every event keeps by itself: O7, O8, O10 to O13, and the frame of the cells, O31. -/

namespace Sys2Proof.Machine

/-! ## The commands outside the maps' own work -/

/-- The commands of the sight maps' own work. -/
def Instr.mapWork : Instr → Bool
  | .mapFill | .mapCopy | .mapLine | .mapRun | .mapClear | .mapAbort | .mapCellStep | .clearingSweepStep | .learningRequest _ => true
  | _ => false

/-- The resets, and the write of the notice flags. -/
def Instr.clears : Instr → Bool
  | .hardwareReset | .softReset _ | .noticeFlagClear _ => true
  | _ => false

theorem Device.MapWork.effect (d : Device) {c : Instr} (h : Instr.mapWork c = true) : d.MapWork (Instr.effect c d) := by
  cases c with
  | mapFill => exact .command 0x20 fun e => .judgeMapFill
  | mapCopy => exact .command 0x21 fun e => .judgeMapCopy
  | mapLine => exact .command 0x22 fun e => .judgeMapLine
  | mapRun => exact .command 0x23 fun e => .judgeMapRun
  | mapClear => exact .command 0x24 fun e => .judgeMapClear
  | mapAbort => exact .command 0x25 fun e => .judgeMapAbort
  | mapCellStep => exact .mapStep d
  | clearingSweepStep => exact .sweepStep d
  | learningRequest source => exact .takeLearning d source
  | _ => simp [Instr.mapWork] at h

namespace Device.Keeps

variable {d e : Device}

theorem judgeArm (h : d.judgeArm = .taken e ∨ d.judgeArm = .held e) : d.Keeps e := by
  simp only [Device.judgeArm] at h
  split_ifs at h
  · simp at h
  · obtain rfl : d.armWith _ = e := by simpa using h
    exact (refl d).armWith _
  · simp at h

theorem judgeCancel (h : d.judgeCancel = .taken e ∨ d.judgeCancel = .held e) : d.Keeps e := by
  unfold Device.judgeCancel at h
  split at h
  · obtain rfl : d = e := by simpa using h
    exact refl d
  · obtain rfl : d.cancelTrack = e := by simpa using h
    exact (refl d).cancelTrack

theorem judgeHandoffTo (h : d.judgeHandoffTo = .taken e ∨ d.judgeHandoffTo = .held e) : d.Keeps e := by
  unfold Device.judgeHandoffTo at h
  repeat' split at h
  · simp at h
  · simp at h
  · obtain rfl : d.startHandoff _ = e := by simpa using h
    exact (refl d).startHandoff _
  · obtain rfl : d.startHandoff _ = e := by simpa using h
    exact (refl d).startHandoff _
  · obtain rfl : d.startHandoff _ = e := by simpa using h
    exact (refl d).startHandoff _
  · obtain rfl : d.startHandoff _ = e := by simpa using h
    exact (refl d).startHandoff _
  · simp at h
  · simp at h
  · simp at h

theorem judgeLoad (h : d.judgeLoad = .taken e ∨ d.judgeLoad = .held e) : d.Keeps e := by
  unfold Device.judgeLoad at h
  repeat' split at h
  · simp at h
  · simp at h
  · obtain rfl : d.loadTransform _ = e := by simpa using h
    exact (refl d).loadTransform _

theorem judgeUnload (h : d.judgeUnload = .taken e ∨ d.judgeUnload = .held e) : d.Keeps e := by
  unfold Device.judgeUnload at h
  repeat' split at h
  · simp at h
  · simp at h
  · obtain rfl : d.unloadTransform _ = e := by simpa using h
    exact (refl d).unloadTransform _
  · obtain rfl : d = e := by simpa using h
    exact refl d

theorem judgeSetQuiet (h : d.judgeSetQuiet = .taken e ∨ d.judgeSetQuiet = .held e) : d.Keeps e := by
  unfold Device.judgeSetQuiet at h
  split at h
  · simp at h
  · simp at h
  · obtain rfl : d.requestQuiet _ _ = e := by simpa using h
    exact (refl d).requestQuiet _ _

theorem judgeSetLearning (h : d.judgeSetLearning = .taken e ∨ d.judgeSetLearning = .held e) : d.Keeps e := by
  unfold Device.judgeSetLearning at h
  split at h
  · simp at h
  · simp at h
  · obtain rfl : d.onStation _ _ = e := by simpa using h
    exact (refl d).onStation _ ⟨rfl, rfl⟩

theorem judgeSetOutstanding (h : d.judgeSetOutstanding = .taken e ∨ d.judgeSetOutstanding = .held e) : d.Keeps e := by
  simp only [Device.judgeSetOutstanding] at h
  repeat' split at h
  · simp at h
  · next range =>
    obtain rfl : d.setOutstanding _ _ = e := by simpa using h
    exact (refl d).setOutstanding _ range
  · simp at h

theorem judgePassSend (h : d.judgePassSend = .taken e ∨ d.judgePassSend = .held e) : d.Keeps e := by
  simp only [Device.judgePassSend] at h
  repeat' split at h
  · simp at h
  · simp at h
  · simp at h
  · simp at h
  · obtain rfl : d.onPort _ _ = e := by simpa using h
    exact (refl d).onPort _ id

theorem returnWord (k : d.Keeps e) (w : Word) : d.Keeps (e.returnWord w) := k.onSbi _

theorem snapshotTrack (k : d.Keeps e) : d.Keeps e.snapshotTrack :=
  returnWord (k.onEveryTrack (f := fun t => { t with snapshot := ⟨t.position, t.velocity, t.lastUpdate, t.pathResult⟩ })
    (by intro; rfl)) _

theorem readRoll (d : Device) : d.Keeps d.readRoll := by
  have advanced : d.Keeps d.rollAdvance := (refl d).onClock d.tb _
  exact advanced.returnWord _

theorem clearPortFlags (k : d.Keeps e) (p : Port) (w : Word) : d.Keeps (e.clearPortFlags p w) := k.onPort p id

theorem clearBusWidth (k : d.Keeps e) : d.Keeps e.clearBusWidth := k.onSbi _

theorem markBusWidth (k : d.Keeps e) : d.Keeps e.markBusWidth := k.onSbi _

theorem not_held_judgeFlush : d.judgeFlush ≠ .held e := by
  unfold Device.judgeFlush
  split <;> simp

theorem not_held_judgeResume : d.judgeResume ≠ .held e := by
  unfold Device.judgeResume
  split_ifs <;> simp

/-- Every direct command outside the maps' own work, the resets and the flag write stands in the relation. -/
theorem effect (d : Device) {c : Instr} (direct : Instr.direct c = true) (map : Instr.mapWork c = false)
    (clears : Instr.clears c = false) : d.Keeps (Instr.effect c d) := by
  cases c with
  | arm => exact .command 0x01 fun e => judgeArm
  | cancel => exact .command 0x02 fun e => judgeCancel
  | handoffTo => exact .command 0x03 fun e => judgeHandoffTo
  | loadTransform => exact .command 0x10 fun e => judgeLoad
  | unloadTransform => exact .command 0x11 fun e => judgeUnload
  | setQuiet => exact .command 0x12 fun e => judgeSetQuiet
  | setLearning => exact .command 0x13 fun e => judgeSetLearning
  | setOutstanding => exact .command 0x14 fun e => judgeSetOutstanding
  | mapPeek => exact (refl d).returnWord (d.readWord 0x758)
  | passSend => exact .command 0x30 fun e => judgePassSend
  | roeStart => exact .command 0x40 fun e => judgeStart
  | roeFlush => exact .command 0x41 fun e h => judgeFlush (h.resolve_right not_held_judgeFlush)
  | roeResume => exact .command 0x42 fun e h => judgeResume (h.resolve_right not_held_judgeResume)
  | enable big flush => exact ((refl d).storeSettings big flush).enableAction
  | disable big flush => exact ((refl d).storeSettings big flush).disableAction
  | engineReset big flush => exact ((refl d).storeSettings big flush).engineResetAction
  | engineControlSettings big flush => exact (refl d).storeSettings big flush
  | pairModeWrite w => exact (refl d).setPairMode (decide (w ≠ 0))
  | trackSnapshot => exact (refl d).snapshotTrack
  | rollRead => exact readRoll d
  | rollWrite w => exact (refl d).onClock d.tb _
  | noticeMaskWrite w => exact onMask d _ _
  | noticeControlWrite w => exact onMask d _ _
  | portFlagClear p w => exact (refl d).clearPortFlags p w
  | busWidthClear => exact (refl d).clearBusWidth
  | mailboxRelease p w => exact (refl d).releaseMailbox p
  | subWordWrite o w => exact (refl d).markBusWidth
  | queryDeadlineExpiry => exact (refl d).queryExpires
  | outputDeadlineExpiry => exact (refl d).outputExpires
  | handoffDeadlineExpiry => exact (refl d).handoffExpires
  | coastDeadlineExpiry => exact (refl d).coastExpires
  | searchDeadlineExpiry => exact (refl d).searchExpires
  | holdOffExpiry p => exact (refl d).holdOffExpires p
  | silenceDeadlineExpiry p => exact (refl d).silenceTimeout p
  | answerDeadlineExpiry p => exact (refl d).answerTimeout p
  | idleCharacter p => exact (refl d).receive p _
  | sof p => exact (refl d).receive p _
  | brk p => exact (refl d).receive p _
  | ack p => exact (refl d).receive p _
  | nak p => exact (refl d).receive p _
  | eof p => exact (refl d).receive p _
  | dataCharacter p c => exact (refl d).receive p c
  | frameCheckFail p chars => exact (refl d).receiveAll p _
  | formatFail p kind seq payload => exact (refl d).receiveAll p _
  | obs p seq r => exact (refl d).receiveAll p _
  | lock p seq r => exact (refl d).receiveAll p _
  | breakFrame p seq r => exact (refl d).receiveAll p _
  | failFrame p seq a b => exact (refl d).receiveAll p _
  | bearing p seq r => exact (refl d).receiveAll p _
  | ident p seq i => exact (refl d).receiveAll p _
  | pass p seq payload => exact (refl d).receiveAll p _
  | outboundFrameTake p => exact (refl d).takeFrame p
  | eofSent p => exact (refl d).eofGone p _
  | xfuGrant => exact (refl d).grant
  | xfuCompletion => exact (refl d).complete
  | pointLookup p => exact (refl d).takeLookup p
  | lookupResult p => exact (refl d).storeLookup p
  | pathScan => exact (refl d).takeScan
  | pathScanResult => exact handBackScan d
  | recordWriteBegin => exact (refl d).beginRecordWrite
  | recordWriteEnd ok => exact (refl d).endRecordWrite ok
  | writebackEnd ok => exact (refl d).endWriteback ok
  | descriptorReadEnd answer => exact (refl d).endDescriptorRead answer
  | rereadEnd answer => exact (refl d).endReread answer
  | hardwareReset | softReset k | noticeFlagClear w => simp [Instr.clears] at clears
  | registerWrite o w | unknownCommandCode code => simp [Instr.direct] at direct
  | _ => simp [Instr.mapWork] at map

end Device.Keeps

/-! ## The resets and the flag write -/

/-- What both resets leave, but for the transform records, the cells and the interface. -/
structure Device.ResetFrom (d e : Device) : Prop where
  track : e.track = .reset
  params : e.params = .reset
  stations : e.stations = .same .reset
  ports : e.ports = .same .reset
  engine : e.engine = .reset
  xfu : ∃ records, e.xfu = .resetWith records
  smu : ∃ sweep, e.smu = .resetWith d.smu.cells sweep ∧ (sweep = none ∨ sweep = some 0)

theorem Device.hardwareReset_resetFrom (d : Device) : d.ResetFrom d.hardwareReset :=
  ⟨rfl, rfl, rfl, rfl, rfl, ⟨_, rfl⟩, _, rfl, .inr rfl⟩

theorem Device.softReset_resetFrom (d : Device) (keep : Bool) : d.ResetFrom (d.softReset keep) := by
  unfold Device.softReset
  cases keep with
  | false => exact ⟨rfl, rfl, rfl, rfl, rfl, ⟨_, rfl⟩, _, rfl, .inr rfl⟩
  | true => exact ⟨rfl, rfl, rfl, rfl, rfl, ⟨_, rfl⟩, _, rfl, by cases d.smu.sweep <;> simp⟩

namespace Device.ResetFrom

variable {d e : Device}

theorem balanced (h : d.ResetFrom e) : e.engine.Balanced := h.engine ▸ Engine.Balanced.reset

theorem ordered (h : d.ResetFrom e) : e.engine.Ordered := h.engine ▸ Engine.Ordered.reset

theorem shown (h : d.ResetFrom e) : e.ConditionsShown := by
  rw [Device.conditionsShown_iff]
  intro source holds
  cases source <;> simp [Device.conditionHolds, h.ports, h.engine, LinkPort.reset, Engine.reset] at holds

theorem ranges (h : d.ResetFrom e) : e.RangesHold := by
  obtain ⟨records, xfu⟩ := h.xfu
  obtain ⟨sweep, smu, -⟩ := h.smu
  refine ⟨h.track ▸ ⟨?_, rfl, Nat.zero_le _, ⟨fun _ at_ => by simp [Track.reset, PathResult.empty] at at_, Nat.zero_le _⟩⟩,
    h.params ▸ ?_, xfu ▸ ⟨fun p => ?_, fun p => ?_, List.nodup_nil⟩, ?_⟩
  · simp [inRange32, Track.reset]
  · constructor <;> simp [Params.reset]
  · simp [Xfu.resetWith]
  · simp [Xfu.resetWith]
  · simp [smu, Smu.resetWith]

theorem bearings (h : d.ResetFrom e) : e.BearingsAgree := by
  obtain ⟨sweep, smu, -⟩ := h.smu
  refine ⟨fun p at_ => ?_, ?_⟩
  · simp [h.stations, Station.reset] at at_
  · simp [smu, Smu.resetWith]

theorem kept (h : d.ResetFrom e) (k : d.smu.Kept) : e.smu.Kept := by
  obtain ⟨sweep, smu, start⟩ := h.smu
  rw [smu]
  refine ⟨k.wellFormed, k.inside, fun a at_ => ?_, fun _ => rfl, fun c at_ => by simp [Smu.resetWith] at at_⟩
  rcases start with rfl | rfl
  · simp [Smu.resetWith] at at_
  · obtain rfl : (0 : Nat) = a := Option.some.inj at_
    decide

end Device.ResetFrom

/-- A write of the flag word clears no flag whose condition holds (R185). -/
theorem Device.clearNotices_shown (d : Device) (w : Word) (h : d.ConditionsShown) : (d.clearNotices w).ConditionsShown := by
  rw [Device.conditionsShown_iff] at h ⊢
  intro source holds
  have before : d.conditionHolds source = true := by cases source <;> exact holds
  have flag : d.notices.flags.getLsbD source.number = true := h source before
  show (d.notices.clear d.conditions _).flags.getLsbD source.number = true
  rw [Notices.getLsbD_clear_flags _ _ _ source.number_lt, d.getLsbD_conditions, before, flag]
  simp

/-- A law that the relation, the maps' own work, the resets and the flag write keep is one that every step keeps. -/
theorem step_keeps_law {P : Device → Prop} {s t : State} (h : step s = .next t) (keeps : ∀ d e, d.Keeps e → P d → P e)
    (map : ∀ d e, d.MapWork e → P d → P e) (reset : ∀ d e, d.ResetFrom e → P d → P e) (flags : ∀ d w, P d → P (d.clearNotices w))
    (hs : P s.device) : P t.device := by
  refine step_keeps h (keeps _ _ (.tick _)) (fun c hs => Instr.effect_of_direct hs (fun c direct => ?_) ?_ c) hs
  · by_cases work : Instr.mapWork c = true
    · exact map _ _ (.effect _ work) hs
    by_cases clears : Instr.clears c = true
    · cases c with
      | hardwareReset => exact reset _ _ (Device.hardwareReset_resetFrom _) hs
      | softReset keep => exact reset _ _ (Device.softReset_resetFrom _ keep) hs
      | noticeFlagClear w => exact flags _ w hs
      | _ => simp [Instr.clears] at clears
    · exact keeps _ _ (.effect _ direct (by simpa using work) (by simpa using clears)) hs
  · exact fun e at_ => keeps _ _ (.stored at_) hs

/-! ## The cells (R84, R94) -/

/-- The cells of two lists agree where the first holds a FIXED state. -/
def FixedStay (before after : List (Nat × CellState)) : Prop :=
  ∀ a, (readCell before a = .fixedClear ∨ readCell before a = .fixedBlocked) → readCell after a = readCell before a

theorem FixedStay.trans {l m n : List (Nat × CellState)} (h : FixedStay l m) (k : FixedStay m n) : FixedStay l n := fun a fixed => by
  rw [k a (by rw [h a fixed]; exact fixed), h a fixed]

theorem FixedStay.of_eq {l m : List (Nat × CellState)} (h : m = l) : FixedStay l m := fun _ _ => by rw [h]

/-- Learning leaves each FIXED cell (R84). -/
theorem FixedStay.learn {m : Smu} (h : CellsKept m.cells) (r : LearnRequest) : FixedStay m.cells (m.learn r).cells := by
  rcases m.learn_cases r with ⟨same, -⟩ | ⟨a, -, wrote⟩
  · exact .of_eq (by rw [same])
  · intro b fixed
    rw [wrote, readCell_writeCell h.wellFormed]
    split
    · next at_ =>
      subst at_
      exact r.event.apply_fixed _ fixed
    · rfl

theorem FixedStay.applyLatches {m : Smu} (h : CellsKept m.cells) (l : List Port) :
    FixedStay m.cells (l.foldl Smu.applyLatch m).cells := by
  induction l generalizing m with
  | nil => exact .of_eq rfl
  | cons p l ih =>
    refine FixedStay.trans ?_ (ih (h.applyLatch p))
    rw [m.applyLatch_cells p]
    split
    · exact .learn h _
    · exact .of_eq rfl

theorem Device.endMapCommand_fixedStay (d : Device) (h : CellsKept d.smu.cells) (result : MapResult) :
    FixedStay d.smu.cells (d.endMapCommand result).smu.cells := by
  unfold Device.endMapCommand
  split
  · exact .of_eq rfl
  · exact FixedStay.applyLatches (m := { d.smu with running := none, status := { d.smu.status with result := result } }) h _

theorem Device.takeLearning_fixedStay (d : Device) (h : CellsKept d.smu.cells) (source : LearnSource) :
    FixedStay d.smu.cells (d.takeLearning source).smu.cells := by
  unfold Device.takeLearning
  split
  · next r _ =>
    have judged : ∀ (m : Smu) (on : Bool), CellsKept m.cells → FixedStay m.cells (m.judgeLearning on r).cells := by
      intro m on kept
      rcases m.judgeLearning_cases on r with same | same | same <;> rw [same]
      · exact .of_eq rfl
      · exact .of_eq rfl
      · exact .learn kept r
    exact judged { d.smu with learnQueue := d.smu.learnQueue.eraseP fun r => decide (r.source = source) } _ h
  · exact .of_eq rfl

/-- A property of the part that a command's judgement has, or the part itself, and that the command status leaves. -/
theorem Device.command_of {P : Device → Prop} {d : Device} (code : Byte) {judge : Device → CommandResult} (same : P d)
    (judged : ∀ e, judge d = .taken e ∨ judge d = .held e → P e) (status : ∀ e o r, P e → P (e.setStatus code o r)) :
    P (d.command code judge) := by
  rcases d.command_cases code judge with ⟨-, at_⟩ | ⟨-, ⟨e, took, at_⟩ | ⟨_, -, at_⟩ | ⟨e, took, at_⟩⟩ <;> rw [at_]
  · exact status _ _ _ same
  · exact status _ _ _ (judged e (.inl took))
  · exact status _ _ _ same
  · exact status _ _ _ (judged e (.inr took))

theorem Device.judgeMapAbort_fixedStay {d e : Device} (h : CellsKept d.smu.cells)
    (took : d.judgeMapAbort = .taken e ∨ d.judgeMapAbort = .held e) : FixedStay d.smu.cells e.smu.cells := by
  unfold Device.judgeMapAbort at took
  split at took
  · next c _ =>
    obtain rfl : d.abortMapCommand c = e := by simpa using took
    unfold Device.abortMapCommand
    split
    · next column _ =>
      exact Device.endMapCommand_fixedStay (d.onSmu fun m => { m with status := { m.status with runStopColumn := column } }) h _
    · exact d.endMapCommand_fixedStay h _
  · simp at took

/-- An accepted map command changes no cell. -/
theorem Device.judgeMap_cells {d e : Device} {range : Bool} {command : Option MapCommand}
    (h : d.judgeMap range command = .taken e ∨ d.judgeMap range command = .held e) : e.smu.cells = d.smu.cells := by
  rcases h with took | held
  · obtain ⟨-, -, c, -, rfl⟩ := Device.judgeMap_taken took
    rfl
  · exact absurd held Device.judgeMap_not_held

/-- Which commands may change a cell at once. -/
def Instr.touchesCells : Instr → Bool
  | .mapCellStep | .clearingSweepStep | .learningRequest _ | .mapAbort => true
  | _ => false

/-- A direct command outside the cells' own work leaves every cell. -/
theorem Instr.effect_cells {c : Instr} (d : Device) (direct : Instr.direct c = true) (other : Instr.touchesCells c = false) :
    (Instr.effect c d).smu.cells = d.smu.cells := by
  have judged : ∀ code judge, (∀ e, judge d = .taken e ∨ judge d = .held e → e.smu.cells = d.smu.cells) →
      (d.command code judge).smu.cells = d.smu.cells := fun code judge h =>
    Device.command_of (P := fun e => e.smu.cells = d.smu.cells) code rfl h fun _ _ _ => id
  by_cases work : Instr.mapWork c = true
  · cases c with
    | mapFill => exact judged 0x20 _ fun e => Device.judgeMap_cells
    | mapCopy => exact judged 0x21 _ fun e => Device.judgeMap_cells
    | mapLine => exact judged 0x22 _ fun e => Device.judgeMap_cells
    | mapRun => exact judged 0x23 _ fun e => Device.judgeMap_cells
    | mapClear => exact judged 0x24 _ fun e h => Device.judgeMap_cells (by unfold Device.judgeMapClear at h; exact h)
    | mapCellStep | clearingSweepStep | learningRequest _ | mapAbort => simp [Instr.touchesCells] at other
    | _ => simp [Instr.mapWork] at work
  by_cases clears : Instr.clears c = true
  · cases c with
    | hardwareReset =>
      obtain ⟨sweep, smu, -⟩ := d.hardwareReset_resetFrom.smu
      show d.hardwareReset.smu.cells = d.smu.cells
      rw [smu]
      rfl
    | softReset keep =>
      obtain ⟨sweep, smu, -⟩ := (d.softReset_resetFrom keep).smu
      show (d.softReset keep).smu.cells = d.smu.cells
      rw [smu]
      rfl
    | noticeFlagClear w => rfl
    | _ => simp [Instr.clears] at clears
  · exact (Device.Keeps.effect d direct (by simpa using work) (by simpa using clears)).maps.1

theorem Device.Stored.cells {d e : Device} (h : d.Stored e) : e.smu.cells = d.smu.cells := (Device.Keeps.stored h).maps.1

/-- Every command but a cell step and a sweep step leaves the FIXED cells. -/
theorem Instr.effect_fixedStay (d : Device) (kept : d.smu.Kept) (c : Instr) (cell : c ≠ .mapCellStep) (sweep : c ≠ .clearingSweepStep) :
    FixedStay d.smu.cells (Instr.effect c d).smu.cells := by
  have direct : ∀ c, Instr.direct c = true → c ≠ .mapCellStep → c ≠ .clearingSweepStep →
      FixedStay d.smu.cells (Instr.effect c d).smu.cells := by
    intro c is cell sweep
    by_cases touches : Instr.touchesCells c = true
    · cases c with
      | learningRequest source => exact d.takeLearning_fixedStay kept.cellsKept source
      | mapAbort =>
        exact Device.command_of (P := fun e => FixedStay d.smu.cells e.smu.cells) 0x25 (.of_eq rfl)
          (fun e => Device.judgeMapAbort_fixedStay kept.cellsKept) fun _ _ _ => id
      | _ => simp_all [Instr.touchesCells]
    · exact .of_eq (Instr.effect_cells d is (by simpa using touches))
  have table : ∀ code c, (code, c) ∈ commandTable → c ≠ .mapCellStep ∧ c ≠ .clearingSweepStep := by
    have all : ∀ e ∈ commandTable, e.2 ≠ .mapCellStep ∧ e.2 ≠ .clearingSweepStep := by decide
    exact fun code c mem => all _ mem
  have written : ∀ code, FixedStay d.smu.cells (d.writeCommand code).smu.cells := by
    intro code
    rcases d.writeCommand_cases code with ⟨c, mem, at_⟩ | ⟨-, at_⟩ <;> rw [at_]
    · exact direct c (Instr.direct_of_table mem) (table _ _ mem).1 (table _ _ mem).2
    · exact Device.command_of (P := fun e => FixedStay d.smu.cells e.smu.cells) code (.of_eq rfl) (fun e h => by simp at h)
        fun _ _ _ => id
  by_cases is : Instr.direct c = true
  · exact direct c is cell sweep
  · cases c with
    | registerWrite o w =>
      show FixedStay d.smu.cells (d.writeWord o w).smu.cells
      have wrote := d.writeWord_written o w
      generalize d.writeWord o w = e at wrote
      cases wrote with
      | discarded => exact .of_eq rfl
      | command => exact written _
      | action c acts =>
        refine direct c (Instr.direct_of_registerAction acts) ?_ ?_ <;> rintro rfl <;> simp [Instr.registerAction] at acts
      | stored _ at_ => exact .of_eq at_.cells
    | unknownCommandCode code => exact written code
    | _ => exact absurd rfl is

theorem Instr.not_touchesCells_of_registerAction {c : Instr} (h : Instr.registerAction c = true) : Instr.touchesCells c = false := by
  cases c <;> simp_all [Instr.registerAction, Instr.touchesCells]

theorem Instr.touchesCells_iff (c : Instr) :
    Instr.touchesCells c = true ↔ c = .mapCellStep ∨ c = .clearingSweepStep ∨ (∃ s, c = .learningRequest s) ∨ c = .mapAbort := by
  cases c <;> simp [Instr.touchesCells]

/-- A write of the command register with another code than MAP_ABORT's leaves every cell. -/
theorem Device.writeCommand_cells (d : Device) {code : Byte} (other : code ≠ 0x25) : (d.writeCommand code).smu.cells = d.smu.cells := by
  have table : ∀ e ∈ commandTable, Instr.touchesCells e.2 = true → e.1 = 0x25 := by decide
  rcases d.writeCommand_cases code with ⟨c, mem, at_⟩ | ⟨-, at_⟩ <;> rw [at_]
  · refine Instr.effect_cells d (Instr.direct_of_table mem) ?_
    by_contra touches
    exact other (table _ mem (by simpa using touches))
  · exact Device.command_of (P := fun e => e.smu.cells = d.smu.cells) code rfl (fun e h => by simp at h) fun _ _ _ => id

/-- A command that is none of those that touch cells, nor a write that runs MAP_ABORT, leaves every cell. -/
theorem Instr.effect_cells_of_other (d : Device) (c : Instr) (cell : c ≠ .mapCellStep) (sweep : c ≠ .clearingSweepStep)
    (learning : ∀ s, c ≠ .learningRequest s) (abort : c ≠ .mapAbort) (code : c ≠ .unknownCommandCode 0x25)
    (word : ∀ w : Word, w.extractLsb' 0 8 = 0x25 → c ≠ .registerWrite 0x004 w) :
    (Instr.effect c d).smu.cells = d.smu.cells := by
  by_cases is : Instr.direct c = true
  · refine Instr.effect_cells d is ?_
    rw [Bool.eq_false_iff, Ne, Instr.touchesCells_iff]
    simp [cell, sweep, learning, abort]
  · cases c with
    | registerWrite o w =>
      show (d.writeWord o w).smu.cells = d.smu.cells
      have wrote := d.writeWord_written o w
      generalize d.writeWord o w = e at wrote
      cases wrote with
      | discarded => rfl
      | command at_ => exact d.writeCommand_cells fun abort => word w abort (at_ ▸ rfl)
      | action c acts =>
        exact Instr.effect_cells d (Instr.direct_of_registerAction acts) (Instr.not_touchesCells_of_registerAction acts)
      | stored _ at_ => exact at_.cells
    | unknownCommandCode b => exact d.writeCommand_cells fun at_ => code (at_ ▸ rfl)
    | _ => exact absurd rfl is

end Sys2Proof.Machine

namespace Sys2Proof

open Machine

/-- Settles O7: the ledger of records through the relation of the kept laws. -/
theorem recordsConserved : Obligations.RecordsConserved := by
  intro s t h conserves bounded
  have kept := step_keeps_law (P := fun d => d.engine.Balanced) h (fun _ _ k => k.balanced) (fun _ _ k b => k.engine ▸ b)
    (fun _ _ k _ => k.balanced) (fun _ _ b => b) ⟨conserves, bounded⟩
  exact ⟨kept.conserves, kept.bounded⟩

/-- Settles O8. -/
theorem engineOrderKept : Obligations.EngineOrderKept := fun _ _ h =>
  step_keeps_law (P := fun d => d.engine.Ordered) h (fun _ _ k => k.ordered) (fun _ _ k o => k.engine ▸ o) (fun _ _ k _ => k.ordered)
    fun _ _ o => o

/-- Settles O10: outside the maps' own work the cells, the sweep and the running command stay. -/
theorem mapsKept : Obligations.MapsKept := fun _ _ h =>
  step_keeps_law (P := fun d => d.smu.Kept) h
    (fun _ _ k m => have ⟨cells, sweep, running⟩ := k.maps; m.of_same (cells ▸ m.cellsKept) sweep running)
    (fun _ _ k => k.kept) (fun _ _ k => k.kept) fun _ _ m => m

/-- Settles O11: no flag is lost but by a write of the flag word, which leaves the flags of conditions that hold. -/
theorem noticeConditionsShown : Obligations.NoticeConditionsShown := fun _ _ h =>
  step_keeps_law h (fun _ _ k => k.shows.shown) (fun _ _ k => k.shows.shown) (fun _ _ k _ => k.shown) Device.clearNotices_shown

/-- Settles O12. -/
theorem rangesKept : Obligations.RangesKept := fun _ _ h =>
  step_keeps_law h (fun _ _ k => k.ranges) (fun _ _ k => k.ranges) (fun _ _ k _ => k.ranges)
    fun _ _ r => ⟨r.track, r.params, r.xfu, r.scans⟩

/-- Settles O13. -/
theorem bearingsKept : Obligations.BearingsKept := fun _ _ h =>
  step_keeps_law h (fun _ _ k => k.bearings) (fun _ _ k => k.bearings) (fun _ _ k _ => k.bearings)
    fun _ _ b => ⟨b.answered, b.asked⟩

/-- Settles O31: learning keeps FIXED cells, and every other command but the two steps leaves all cells. -/
theorem cellsChangeOnlyByTheirCommands : Obligations.CellsChangeOnlyByTheirCommands := by
  constructor
  · intro c d d' q kept cell sweep run a fixed
    rw [exec_eq_effect] at run
    obtain rfl : Instr.effect c d = d' := by simpa using run
    exact Instr.effect_fixedStay d kept c cell sweep a fixed
  · intro c d d' q cell sweep learning abort code word run
    rw [exec_eq_effect] at run
    obtain rfl : Instr.effect c d = d' := by simpa using run
    exact Instr.effect_cells_of_other d c cell sweep learning abort code word

end Sys2Proof
end

section
/-! PROOFS. The operations of the track unit as record updates: orders and releases over the four ports, the change of state, failed
takes, entry into SEARCH and LOST; O15, O17, O18, O20, O21. -/

namespace Sys2Proof.Machine

/-! ## The parts of the device that belong to a station: its record, its port, its current order -/

/-- The part with its stations, its ports and its current orders replaced. -/
def Device.withPlaces (d : Device) (stations : PerPort Station) (ports : PerPort LinkPort) (orders : PerPort (Option OrderKind)) :
    Device := { d with stations := stations, ports := ports, track := { d.track with currentOrder := orders } }

theorem Device.withPlaces_congr (d : Device) {s s' : PerPort Station} {l l' : PerPort LinkPort} {o o' : PerPort (Option OrderKind)}
    (stations : ∀ p, s.get p = s'.get p) (ports : ∀ p, l.get p = l'.get p) (orders : ∀ p, o.get p = o'.get p) :
    d.withPlaces s l o = d.withPlaces s' l' o' := by
  rw [PerPort.ext_get s s' stations, PerPort.ext_get l l' ports, PerPort.ext_get o o' orders]

/-- A station without its role: STANDBY, or ABSENT where its link is down (R27). -/
def Station.standing (s : Station) : Station := { s with state := if s.state = .absent then .absent else .standby }

/-- A port whose station is released (R28, R29): the RELEASE unless the station is ABSENT, and the end of its order. -/
def LinkPort.released (l : LinkPort) (state : StationState) (reason : ReleaseReason) : LinkPort :=
  (if state = .absent then l else l.placeRelease reason).endOrder

/-- The stations that a test picks released (R29). -/
def Device.freed (d : Device) (who : Port → Bool) (reason : ReleaseReason) : Device :=
  d.withPlaces (eachPort fun p => if who p then (d.stations.get p).standing else d.stations.get p)
    (eachPort fun p => if who p then (d.ports.get p).released (d.stationState p) reason else d.ports.get p)
    (eachPort fun p => if who p then none else d.track.currentOrder.get p)

theorem Device.standDown_eq (d : Device) (p : Port) :
    d.standDown p = d.withPlaces (d.stations.set p (d.stations.get p).standing) (d.ports.set p (d.ports.get p).endOrder)
      (d.track.currentOrder.set p none) := rfl

theorem Device.sendRelease_eq (d : Device) (p : Port) (reason : ReleaseReason) :
    d.sendRelease p reason =
      { d with
        ports := d.ports.set p
          (if d.stationState p = .absent then d.ports.get p else (d.ports.get p).placeRelease reason) } := by
  unfold Device.sendRelease
  split
  · rw [PerPort.set_get]
  · rfl

theorem Device.releaseStation_eq (d : Device) (p : Port) (reason : ReleaseReason) :
    d.releaseStation p reason = d.withPlaces (d.stations.set p (d.stations.get p).standing)
      (d.ports.set p ((d.ports.get p).released (d.stationState p) reason)) (d.track.currentOrder.set p none) := by
  rw [Device.releaseStation, Device.sendRelease_eq, Device.standDown_eq]
  simp only [Device.withPlaces, PerPort.get_set_self, PerPort.set_set]
  rfl

/-- A released station is one of a test that picks it alone. -/
theorem Device.releaseStation_eq_freed (d : Device) (p : Port) (reason : ReleaseReason) :
    d.releaseStation p reason = d.freed (fun r => decide (r = p)) reason := by
  rw [Device.releaseStation_eq]
  refine Device.withPlaces_congr d (fun r => ?_) (fun r => ?_) (fun r => ?_) <;>
  · rw [PerPort.get_set, get_eachPort]
    by_cases at_ : r = p <;> simp [at_]

theorem Device.freed_none (d : Device) {who : Port → Bool} (none_ : ∀ p, who p = false) (reason : ReleaseReason) :
    d.freed who reason = d := by
  simp only [Device.freed, none_, Bool.false_eq_true, if_false]
  rfl

/-- The end of an order a second time changes nothing more. -/
theorem LinkPort.endOrder_endOrder (l : LinkPort) : l.endOrder.endOrder = l.endOrder := by
  unfold LinkPort.endOrder
  cases l.sending <;> simp [InFlight.notCurrent, List.filter_filter]

/-- A RELEASE placed once more with its reason, its order having ended, changes nothing. -/
theorem LinkPort.placeRelease_endOrder_again (l : LinkPort) (reason : ReleaseReason) :
    ((l.placeRelease reason).endOrder.placeRelease reason).endOrder = (l.placeRelease reason).endOrder := by
  have waits : (l.placeRelease reason).endOrder.control.any OutFrame.isRelease = true := by
    unfold LinkPort.placeRelease
    split
    · next some_ =>
      obtain ⟨f, mem, is⟩ := List.any_eq_true.1 some_
      refine List.any_eq_true.2 ⟨.release reason, ?_, rfl⟩
      exact List.mem_filter.2 ⟨List.mem_map.2 ⟨f, mem, if_pos is⟩, rfl⟩
    · refine List.any_eq_true.2 ⟨.release reason, ?_, rfl⟩
      exact List.mem_filter.2 ⟨List.mem_append_right _ (List.mem_singleton.2 rfl), rfl⟩
  have reasons : ∀ f ∈ (l.placeRelease reason).endOrder.control, f.isRelease = true → f = .release reason := by
    intro f mem is
    have inside := (List.mem_filter.1 mem).1
    unfold LinkPort.placeRelease at inside
    split at inside
    · obtain ⟨g, -, rfl⟩ := List.mem_map.1 inside
      by_cases was : g.isRelease = true
      · rw [if_pos was]
      · rw [if_neg was] at is
        exact absurd is was
    · next none_ =>
      rcases List.mem_append.1 inside with old | new
      · exact absurd (List.any_eq_true.2 ⟨f, old, is⟩) none_
      · exact List.mem_singleton.1 new
  have same : (l.placeRelease reason).endOrder.placeRelease reason = (l.placeRelease reason).endOrder := by
    generalize (l.placeRelease reason).endOrder = k at waits reasons
    have kept : k.control.map (fun f => if f.isRelease then .release reason else f) = k.control := by
      refine (List.map_congr_left fun f mem => ?_).trans (List.map_id _)
      split
      · next is => exact (reasons f mem is).symm
      · rfl
    rw [LinkPort.placeRelease, if_pos waits, kept]
  rw [same, LinkPort.endOrder_endOrder]

/-- Stations released one set after another are released together. -/
theorem Device.freed_freed (d : Device) (who who' : Port → Bool) (reason : ReleaseReason) :
    (d.freed who reason).freed who' reason = d.freed (fun p => who p || who' p) reason := by
  have standing : ∀ s : Station, s.standing.standing = s.standing := fun s => by unfold Station.standing; split <;> simp_all
  refine Device.withPlaces_congr d (fun p => ?_) (fun p => ?_) (fun p => ?_) <;>
    simp only [Device.freed, Device.withPlaces, get_eachPort, Device.stationState]
  · by_cases one : who p = true <;> by_cases two : who' p = true <;> simp [one, two, standing]
  · have again : ((d.ports.get p).released (d.stations.get p).state reason).released (d.stations.get p).standing.state reason =
        (d.ports.get p).released (d.stations.get p).state reason := by
      by_cases absent : (d.stations.get p).state = .absent <;>
        simp [LinkPort.released, Station.standing, absent, LinkPort.endOrder_endOrder, LinkPort.placeRelease_endOrder_again]
    by_cases one : who p = true <;> by_cases two : who' p = true <;> simp [one, two, again]
  · by_cases one : who p = true <;> by_cases two : who' p = true <;> simp [one, two]

theorem Device.freed_congr (d : Device) {who who' : Port → Bool} (same : ∀ p, who p = who' p) (reason : ReleaseReason) :
    d.freed who reason = d.freed who' reason := by rw [funext same]

/-- The state of a station that a release does not touch. -/
theorem Device.freed_stationState_of_not (d : Device) {who : Port → Bool} (reason : ReleaseReason) {p : Port} (h : who p = false) :
    (d.freed who reason).stationState p = d.stationState p := by
  simp [Device.stationState, Device.freed, Device.withPlaces, h]

/-- The ports of the chip, each once. -/
theorem allPorts_mem (p : Port) : p ∈ allPorts := by fin_cases p <;> decide

theorem allPorts_nodup : allPorts.Nodup := by decide

/-- Every SEARCHING station but one released, as one release. -/
theorem Device.releaseSearching_eq (d : Device) (reason : ReleaseReason) (winner : Option Port) :
    d.releaseSearching reason winner = d.freed (fun p => decide (d.stationState p = .searching ∧ some p ≠ winner)) reason := by
  have fold : ∀ (l : List Port) (done : Port → Bool), (∀ p ∈ l, done p = false) → l.Nodup →
      l.foldl (fun d p => if d.stationState p = .searching ∧ some p ≠ winner then d.releaseStation p reason else d)
        (d.freed done reason) =
      d.freed (fun p => done p || decide (p ∈ l ∧ d.stationState p = .searching ∧ some p ≠ winner)) reason := by
    intro l
    induction l with
    | nil => intro done _ _; exact d.freed_congr (fun p => by simp) reason
    | cons p l ih =>
      intro done fresh nodup
      obtain ⟨notIn, nodup⟩ := List.nodup_cons.1 nodup
      rw [List.foldl_cons, d.freed_stationState_of_not reason (fresh p List.mem_cons_self)]
      by_cases searching : d.stationState p = .searching ∧ some p ≠ winner
      · rw [if_pos searching, Device.releaseStation_eq_freed, Device.freed_freed, ih _ _ nodup]
        · refine d.freed_congr (fun q => ?_) reason
          by_cases at_ : q = p
          · simp [at_, searching]
          · simp [at_]
        · intro q mem
          simp [fresh q (List.mem_cons_of_mem p mem), show q ≠ p from fun at_ => notIn (at_ ▸ mem)]
      · rw [if_neg searching, ih _ (fun q mem => fresh q (List.mem_cons_of_mem p mem)) nodup]
        refine d.freed_congr (fun q => ?_) reason
        by_cases at_ : q = p
        · simp [at_, searching]
        · simp [at_]
  have all := fold allPorts (fun _ => false) (fun _ _ => rfl) allPorts_nodup
  rw [d.freed_none fun _ => rfl] at all
  exact all.trans (d.freed_congr (fun p => by simp [allPorts_mem]) reason)

/-! ## The change of state (R21, R25, R26, R36) -/

theorem TrackState.queries_eq_owned (s : TrackState) : s.queries = s.owned := by cases s <;> rfl

theorem TrackState.endsOutput_iff (s : TrackState) : s.endsOutput = true ↔ s = .idle ∨ s = .search ∨ s = .lost := by
  cases s <;> simp [TrackState.endsOutput]

/-- The track after a change of state: its state, its two deadlines, and the next sequence number. -/
theorem Device.changeState_track (d : Device) (after : TrackState) (sat : Bool) :
    (d.changeState after sat).track = { d.track with
      state := after
      recordSeq := d.track.recordSeq + 1
      deadlines := { d.track.deadlines with
        query := if after.owned then (if d.track.state.owned then d.track.deadlines.query else some d.tb) else none
        output := if after = .idle ∨ after = .search ∨ after = .lost then none else d.track.deadlines.output } } := by
  have query : queryAfter d.tb d.track.state after d.track.deadlines.query =
      if after.owned then (if d.track.state.owned then d.track.deadlines.query else some d.tb) else none := by
    rw [queryAfter, TrackState.queries_eq_owned, TrackState.queries_eq_owned]
  rw [← query]
  simp only [← TrackState.endsOutput_iff]
  rfl

/-! ## Failed takes (R47) -/

/-- The part of a failed take before its change of state (R47). -/
def Device.takeFailed (d : Device) (c : Port) (reason : FailReason) : Device :=
  { d with
    stations := d.stations.set c { d.stations.get c with
      state := if d.stationState c = .absent then .absent else .standby
      holdOff := some (d.tb + BitVec.ofNat 32 d.params.holdOff) }
    ports := d.ports.set c (d.ports.get c).endOrder
    track := { d.track with
      candidate := none
      coastExpired := false
      deadlines := { d.track.deadlines with handoff := none }
      counters := { d.track.counters with handoffsFailed := countUp d.track.counters.handoffsFailed }
      failure := ⟨some reason, some c, d.tb⟩
      currentOrder := d.track.currentOrder.set c none }
    notices := { d.notices with flags := d.notices.flags ||| 0x20 } }

theorem Device.failTake_eq (d : Device) (c : Port) (reason : FailReason) :
    d.failTake c reason =
      if d.track.blind then
        (if d.track.coastExpired then (d.takeFailed c reason).enterSearch else (d.takeFailed c reason).changeState .coast false)
      else (d.takeFailed c reason).changeState .tracking false := by
  have failed : (((d.standDown c).onStation c fun s => { s with holdOff := some (timeAfter d.tb d.params.holdOff) }).onTrack fun t =>
      { t with
        candidate := none
        coastExpired := false
        deadlines := { t.deadlines with handoff := none }
        counters := { t.counters with handoffsFailed := countUp t.counters.handoffsFailed }
        failure := ⟨some reason, some c, d.tb⟩ }).raise .handoffFailed = d.takeFailed c reason := by
    rw [Device.standDown_eq]
    simp only [Device.onStation, Device.withPlaces, PerPort.get_set_self, PerPort.set_set]
    rfl
  simp only [Device.failTake]
  rw [failed]

/-! ## Entry into SEARCH and LOST (R68, R72, R75) -/

/-- The part frozen for a search, before the requests are placed (R68). -/
def Device.frozen (d : Device) : Device :=
  { d with
    stations := eachPort fun p =>
      if d.track.owner = some p then (d.stations.get p).standing else d.stations.get p
    ports := eachPort fun p => if d.track.owner = some p then (d.ports.get p).endOrder else d.ports.get p
    track := { d.track with
      owner := none
      searchPoint := some (d.track.predict d.tb).saturate32
      searchPending := .same false
      blind := false
      coastExpired := false
      noCandidate := false
      deadlines := ⟨none, none, some (d.tb + BitVec.ofNat 32 d.params.searchTime), none, none⟩
      currentOrder := eachPort fun p => if d.track.owner = some p then none else d.track.currentOrder.get p } }

/-- Search requests placed for the ports of a list that a test picks, with their places in search_pending (R68). -/
def Device.placed (d : Device) (l : List Port) (asked : Port → Bool) (point : Vec3) : Device :=
  { d with
    xfu := (l.filter asked).foldl (fun x p => x.placeInverse ⟨p, .search, point⟩) d.xfu
    track := { d.track with searchPending := eachPort fun p => d.track.searchPending.get p || (l.contains p && asked p) } }

theorem Device.placeSearches_eq (d : Device) (point : Vec3) :
    d.placeSearches point = d.placed allPorts d.eligible point := by
  have fold : ∀ (l : List Port) (e : Device), e.eligible = d.eligible →
      l.foldl (fun d p => if d.eligible p then
        (d.onXfu fun x => x.placeInverse ⟨p, .search, point⟩).onTrack fun t =>
          { t with searchPending := t.searchPending.set p true } else d) e = e.placed l d.eligible point := by
    intro l
    induction l with
    | nil => intro e _; simp only [Device.placed, List.contains_nil, Bool.false_and, Bool.or_false]; rfl
    | cons p l ih =>
      intro e same
      rw [List.foldl_cons, same]
      by_cases asked : d.eligible p = true
      · rw [if_pos asked]
        refine (ih ((e.onXfu fun x => x.placeInverse ⟨p, .search, point⟩).onTrack fun t =>
          { t with searchPending := t.searchPending.set p true }) same).trans ?_
        simp only [Device.placed, List.filter_cons, asked, if_true, List.foldl_cons, Device.onTrack, Device.onXfu]
        congr 2
        refine PerPort.ext_get _ _ fun q => ?_
        rw [get_eachPort, get_eachPort, PerPort.get_set]
        by_cases at_ : q = p <;> simp [at_, asked]
      · rw [if_neg asked]
        refine (ih _ same).trans ?_
        simp only [Device.placed, List.filter_cons, asked, if_false, Bool.false_eq_true]
        congr 2
        refine PerPort.ext_get _ _ fun q => ?_
        rw [get_eachPort, get_eachPort]
        by_cases at_ : q = p <;> simp [at_, asked]
  exact fold allPorts d rfl

theorem Device.dropOwner_eq (d : Device) :
    d.dropOwner = { d with
      stations := eachPort fun p => if d.track.owner = some p then (d.stations.get p).standing else d.stations.get p
      ports := eachPort fun p => if d.track.owner = some p then (d.ports.get p).endOrder else d.ports.get p
      track := { d.track with
        owner := none
        currentOrder := eachPort fun p => if d.track.owner = some p then none else d.track.currentOrder.get p } } := by
  unfold Device.dropOwner
  split
  · next o owner =>
    have table : ∀ {α : Type} (v : PerPort α) (a : Port → α), v.set o (a o) =
        eachPort fun p => if d.track.owner = some p then a p else v.get p := by
      intro α v a
      rw [PerPort.set_eq_eachPort, owner]
      refine congrArg eachPort (funext fun p => ?_)
      by_cases at_ : p = o
      · simp [at_]
      · simp [at_, Ne.symm at_]
    rw [Device.standDown_eq, table d.stations fun p => (d.stations.get p).standing,
      table d.ports fun p => (d.ports.get p).endOrder, table d.track.currentOrder fun _ => none]
    rfl
  · next owner =>
    simp only [owner, reduceCtorEq, if_false, eachPort_get]
    rw [← owner]

theorem Device.enterSearch_eq (d : Device) :
    d.enterSearch =
      ((d.frozen.placed allPorts d.frozen.eligible (d.track.predict d.tb).saturate32).changeState .search false).endCheck := by
  simp only [Device.enterSearch]
  rw [Device.placeSearches_eq, Device.dropOwner_eq]
  rfl

/-- A record that joins leaves the engine's settings. -/
theorem Engine.join_flushOnLost (e : Engine) (r : Record) : (e.join r).flushOnLost = e.flushOnLost := by
  rcases e.join_cases r with ⟨joined, -⟩ | ⟨joined, -⟩ <;> rw [joined]

/-- The part in LOST, before the flush (R75). -/
def Device.lost (d : Device) : Device :=
  (({ d with track := { d.track with searchPending := .same false, searchPoint := none, deadlines := .absent } } :
    Device).changeState .lost false).raise .trackLost

theorem Device.enterLost_eq (d : Device) : d.enterLost = if d.engine.flushOnLost then d.lost.flush else d.lost := by
  have setting : d.lost.engine.flushOnLost = d.engine.flushOnLost := Engine.join_flushOnLost ..
  rw [← setting]
  rfl

theorem Device.endCheck_of_some {d : Device} (h : ∃ p, d.stationState p = .searching ∨ d.track.searchPending.get p = true) :
    d.endCheck = d := by
  have busy : (d.anySearching || d.anyPending) = true := by
    rw [Bool.or_eq_true, d.anySearching_iff, d.anyPending_iff, ← exists_or]
    exact h
  rw [Device.endCheck, if_pos busy]

theorem Device.endCheck_of_none {d : Device} (h : ∀ p, d.stationState p ≠ .searching ∧ d.track.searchPending.get p = false) :
    d.endCheck = d.enterLost := by
  have idle : ¬ (d.anySearching || d.anyPending) = true := by
    rw [Bool.or_eq_true, d.anySearching_iff, d.anyPending_iff, ← exists_or]
    rintro ⟨p, searching | pending⟩
    · exact (h p).1 searching
    · rw [(h p).2] at pending
      cases pending
  rw [Device.endCheck, if_neg idle]

/-! ## ARM and CANCEL (R31, R56) -/

/-- SEARCH with no point sent to the stations that a test picks. -/
def Device.searchSent (d : Device) (who : Port → Bool) : Device :=
  d.withPlaces (eachPort fun p => if who p then { d.stations.get p with state := .searching } else d.stations.get p)
    (eachPort fun p => if who p then (d.ports.get p).place (.search none) else d.ports.get p)
    (eachPort fun p => if who p then some .search else d.track.currentOrder.get p)

/-- With no late port, a SEARCH sent changes one station's places. -/
theorem Device.sendSearch_eq (d : Device) (p : Port) (late : d.track.latePort = none) :
    d.sendSearch p none = d.searchSent fun r => decide (r = p) := by
  have plain : d.sendSearch p none = d.withPlaces (d.stations.set p { d.stations.get p with state := .searching })
      (d.ports.set p ((d.ports.get p).place (.search none))) (d.track.currentOrder.set p (some .search)) := by
    simp only [Device.sendSearch, Device.placeOrder, Device.onTrack, Device.onPort, Device.setStationState, Device.onStation,
      Device.withPlaces, late, reduceCtorEq, if_false]
  rw [plain]
  refine Device.withPlaces_congr d (fun r => ?_) (fun r => ?_) (fun r => ?_) <;>
  · rw [PerPort.get_set, get_eachPort]
    by_cases at_ : r = p <;> simp [at_]

theorem Device.searchSent_none (d : Device) {who : Port → Bool} (none_ : ∀ p, who p = false) : d.searchSent who = d := by
  simp only [Device.searchSent, none_, Bool.false_eq_true, if_false]
  rfl

theorem Device.searchSent_congr (d : Device) {who who' : Port → Bool} (same : ∀ p, who p = who' p) :
    d.searchSent who = d.searchSent who' := by rw [funext same]

/-- SEARCH sent to one set of stations and then to one more. -/
theorem Device.searchSent_searchSent (d : Device) (who who' : Port → Bool) (apart : ∀ p, who p = true → who' p = false) :
    (d.searchSent who).searchSent who' = d.searchSent fun p => who p || who' p := by
  refine Device.withPlaces_congr d (fun p => ?_) (fun p => ?_) (fun p => ?_) <;>
    simp only [Device.searchSent, Device.withPlaces, get_eachPort]
  all_goals
    by_cases one : who p = true
    · simp [one, apart p one]
    · simp [one]

/-- SEARCH sent in port order to the eligible stations of a mask, as one. -/
theorem Device.sendSearches_eq (d : Device) (mask : PerPort Bool) (late : d.track.latePort = none) :
    allPorts.foldl (fun e p => if mask.get p && d.eligible p then e.sendSearch p none else e) d =
      d.searchSent fun p => mask.get p && d.eligible p := by
  have fold : ∀ (l : List Port) (done : Port → Bool), (∀ p ∈ l, done p = false) → l.Nodup →
      l.foldl (fun e p => if mask.get p && d.eligible p then e.sendSearch p none else e) (d.searchSent done) =
      d.searchSent fun p => done p || (decide (p ∈ l) && (mask.get p && d.eligible p)) := by
    intro l
    induction l with
    | nil => intro done _ _; exact d.searchSent_congr fun p => by simp
    | cons p l ih =>
      intro done fresh nodup
      obtain ⟨notIn, nodup⟩ := List.nodup_cons.1 nodup
      rw [List.foldl_cons]
      by_cases sent : (mask.get p && d.eligible p) = true
      · rw [if_pos sent, Device.sendSearch_eq (d.searchSent done) p late, Device.searchSent_searchSent, ih _ _ nodup]
        · refine d.searchSent_congr fun q => ?_
          by_cases at_ : q = p
          · simp [at_, sent]
          · simp [at_]
        · intro q mem
          simp [fresh q (List.mem_cons_of_mem p mem), show q ≠ p from fun at_ => notIn (at_ ▸ mem)]
        · intro q at_
          by_contra both
          have : q = p := by simpa using both
          rw [this, fresh p List.mem_cons_self] at at_
          cases at_
      · rw [if_neg sent, ih _ (fun q mem => fresh q (List.mem_cons_of_mem p mem)) nodup]
        refine d.searchSent_congr fun q => ?_
        by_cases at_ : q = p
        · simp [at_, Bool.eq_false_iff.2 sent]
        · simp [at_]
  have all := fold allPorts (fun _ => false) (fun _ _ => rfl) allPorts_nodup
  rw [d.searchSent_none fun _ => rfl] at all
  exact all.trans (d.searchSent_congr fun p => by simp [allPorts_mem])

theorem Device.armWith_eq (d : Device) (mask : PerPort Bool) :
    d.armWith mask = Device.changeState
      { d with
        stations := eachPort fun p =>
          if mask.get p && d.eligible p then { d.stations.get p with state := .searching } else d.stations.get p
        ports := eachPort fun p =>
          if mask.get p && d.eligible p then { d.ports.get p with control := (d.ports.get p).control ++ [.search none] }
          else d.ports.get p
        track := { d.track with
          acquireMask := mask
          latePort := none
          coastExpired := false
          noCandidate := false
          currentOrder := eachPort fun p => if mask.get p && d.eligible p then some .search else d.track.currentOrder.get p
          deadlines := { d.track.deadlines with search := some (d.tb + BitVec.ofNat 32 d.params.searchTime) } } }
      .acquire false := by
  simp only [Device.armWith]
  exact congrArg (fun e => Device.changeState e .acquire false) (Device.sendSearches_eq (d.onTrack fun t =>
    { t with
      acquireMask := mask
      latePort := none
      coastExpired := false
      noCandidate := false
      deadlines := { t.deadlines with search := some (timeAfter d.tb d.params.searchTime) } }) mask rfl)

theorem Device.cancelRole_eq (d : Device) (role : Option Port) :
    d.cancelRole role = d.freed (fun p => decide (role = some p)) .cancelled := by
  cases role with
  | none => exact (d.freed_none (fun p => by simp) _).symm
  | some q =>
    rw [Device.cancelRole, Device.releaseStation_eq_freed]
    exact d.freed_congr (fun p => by simp [eq_comm]) _

/-- The stations that CANCEL releases, as one release (R56). -/
theorem Device.cancelReleased_eq (d : Device) :
    ((d.cancelRole d.track.owner).cancelRole d.track.candidate).releaseSearching .cancelled none =
      d.freed (fun p =>
        decide (d.track.owner = some p) || decide (d.track.candidate = some p) || decide (d.stationState p = .searching))
        .cancelled := by
  rw [Device.cancelRole_eq, Device.cancelRole_eq, Device.freed_freed, Device.releaseSearching_eq, Device.freed_freed]
  refine d.freed_congr (fun p => ?_) _
  by_cases named : (decide (d.track.owner = some p) || decide (d.track.candidate = some p)) = true
  · simp [named]
  · have none_ := Bool.eq_false_iff.2 named
    rw [d.freed_stationState_of_not .cancelled none_]
    simp

end Sys2Proof.Machine

namespace Sys2Proof

open Machine

/-- Settles O15. -/
theorem changeOfStateRecorded : Obligations.ChangeOfStateRecorded := by
  refine ⟨fun d after sat => ?_, fun e r => ⟨fun drops => if_pos drops, fun holds => if_neg ?_⟩⟩
  · rw [← d.changeState_track after sat]
    rfl
  · rintro (off | full)
    · exact holds.1 off
    · exact absurd holds.2 (Nat.not_lt.2 full)

/-- Settles O17. -/
theorem takeFails : Obligations.TakeFails := by
  intro d c reason failed
  rw [Device.failTake_eq]
  cases d.track.blind <;> rfl

/-- Settles O18: the fold over the eligible ports is a filter of the four. -/
theorem searchAndLossEntered : Obligations.SearchAndLossEntered := by
  refine ⟨fun d => ?_, fun d => ⟨d.enterLost_eq, Device.endCheck_of_some, Device.endCheck_of_none⟩⟩
  intro point owns frozen placed
  have frozen_eq : ∀ pending, { d.frozen with track := { d.frozen.track with searchPending := pending } } =
      { frozen with track := { frozen.track with searchPending := pending } } := by
    intro pending
    simp only [frozen, owns, Device.frozen, Station.standing, decide_eq_true_eq]
    rfl
  have asked : d.frozen.eligible = frozen.eligible := by
    simp only [frozen, owns, Device.frozen, Station.standing, decide_eq_true_eq]
    rfl
  rw [Device.enterSearch_eq]
  refine congrArg (fun e : Device => (e.changeState .search false).endCheck) ?_
  have pending : (eachPort fun p => d.frozen.track.searchPending.get p || (allPorts.contains p && d.frozen.eligible p)) =
      eachPort frozen.eligible := by
    rw [← asked]
    refine congrArg eachPort (funext fun p => ?_)
    have none_ : d.frozen.track.searchPending.get p = false := PerPort.get_same false p
    rw [none_, List.contains_iff_mem.2 (allPorts_mem p)]
    simp
  have both := frozen_eq (eachPort frozen.eligible)
  calc d.frozen.placed allPorts d.frozen.eligible point
      = { ({ d.frozen with track := { d.frozen.track with searchPending := eachPort frozen.eligible } } : Device) with
          xfu := (allPorts.filter frozen.eligible).foldl (fun x p => x.placeInverse ⟨p, .search, point⟩) d.xfu } := by
        rw [← pending, ← asked]
        rfl
    _ = placed := by rw [both]

/-- Settles O20. -/
theorem armStartsAcquire : Obligations.ArmStartsAcquire := by
  intro d q free sent ready
  have mask : ∀ p, (maskOfWord d.sbi.parameters.p0).get p = d.sbi.parameters.p0.getLsbD p.val := by
    intro p
    fin_cases p <;> rfl
  have judged : d.judgeArm = if ready then .taken (d.armWith (maskOfWord d.sbi.parameters.p0)) else .refused .state := by
    have some_ : (allPorts.any fun p => (maskOfWord d.sbi.parameters.p0).get p && d.eligible p) = true ↔ ∃ p, sent p = true := by
      rw [List.any_eq_true]
      exact ⟨fun ⟨p, _, at_⟩ => ⟨p, by rwa [mask] at at_⟩, fun ⟨p, at_⟩ => ⟨p, allPorts_mem p, by rwa [mask]⟩⟩
    simp only [Device.judgeArm]
    by_cases state : d.track.state = .idle ∨ d.track.state = .lost
    · rw [if_neg (by tauto)]
      by_cases any : ∃ p, sent p = true
      · rw [if_pos (some_.2 any), if_pos ⟨state, any⟩]
      · rw [if_neg (fun h => any (some_.1 h)), if_neg fun h => any h.2]
    · rw [if_pos (by tauto), if_neg fun h => state h.1]
  constructor
  · intro holds
    rw [if_pos holds] at judged
    refine congrArg (fun e => Host.Outcome.next (State.mk e q)) ((Device.command_of_taken 0x01 free judged).trans ?_)
    rw [Device.armWith_eq]
    simp only [mask]
    rfl
  · intro fails
    rw [if_neg fails] at judged
    exact congrArg (fun e => Host.Outcome.next (State.mk e q)) (Device.command_of_refused 0x01 free judged)

/-- Settles O21: the three releases of CANCEL are one. -/
theorem cancelReturnsToIdle : Obligations.CancelReturnsToIdle := by
  intro d q free freed
  constructor
  · intro state
    have judged : d.judgeCancel = .taken d.cancelTrack := if_neg state
    refine congrArg (fun e => Host.Outcome.next (State.mk e q)) ((Device.command_of_taken 0x02 free judged).trans ?_)
    simp only [Device.cancelTrack]
    rw [Device.cancelReleased_eq]
    rfl
  · intro state
    have judged : d.judgeCancel = .taken d := if_pos state
    exact congrArg (fun e => Host.Outcome.next (State.mk e q)) (Device.command_of_taken 0x02 free judged)

end Sys2Proof
end

section
/-! PROOFS. The command register and the commands of stations and transforms: O19, O22, O23, O24. -/

namespace Sys2Proof.Machine

/-! ## A command and its status (R188, R189) -/

theorem exec_of_taken {c : Instr} {d e : Device} {code : Byte} {judge : Device → CommandResult}
    (run : Instr.effect c d = d.command code judge) (free : d.engine.startHeld = false) (judged : judge d = .taken e)
    (q : List Instr) : exec c ⟨d, q⟩ = .next ⟨e.setStatus code .done .nothing, q⟩ := by
  rw [exec_eq_effect, run, Device.command_of_taken code free judged]

theorem exec_of_refused {c : Instr} {d : Device} {code : Byte} {judge : Device → CommandResult} {reason : RefusalReason}
    (run : Instr.effect c d = d.command code judge) (free : d.engine.startHeld = false) (judged : judge d = .refused reason)
    (q : List Instr) : exec c ⟨d, q⟩ = .next ⟨d.setStatus code .refused reason, q⟩ := by
  rw [exec_eq_effect, run, Device.command_of_refused code free judged]

/-- Each command of the dispatch table is its code's judgement, from its own row and from the command register alike. -/
theorem commandTable_judged : ∀ e ∈ commandTable, ∃ judge : Device → CommandResult,
    (∀ d, Instr.effect e.2 d = d.command e.1 judge) ∧ ∀ d : Device, d.writeCommand e.1 = d.command e.1 judge := by
  have row : ∀ (code : Byte) (c : Instr) (judge : Device → CommandResult), (∀ d, Instr.effect c d = d.command code judge) →
      (∀ d : Device, d.writeCommand code = d.command code judge) → ∃ judge : Device → CommandResult,
      (∀ d, Instr.effect c d = d.command code judge) ∧ ∀ d : Device, d.writeCommand code = d.command code judge :=
    fun code c judge effect write => ⟨judge, effect, write⟩
  simp only [commandTable, List.forall_mem_cons, List.not_mem_nil, false_imp_iff, implies_true, and_true]
  exact ⟨row _ _ Device.judgeArm (fun _ => rfl) fun _ => rfl, row _ _ Device.judgeCancel (fun _ => rfl) fun _ => rfl,
    row _ _ Device.judgeHandoffTo (fun _ => rfl) fun _ => rfl, row _ _ Device.judgeLoad (fun _ => rfl) fun _ => rfl,
    row _ _ Device.judgeUnload (fun _ => rfl) fun _ => rfl, row _ _ Device.judgeSetQuiet (fun _ => rfl) fun _ => rfl,
    row _ _ Device.judgeSetLearning (fun _ => rfl) fun _ => rfl, row _ _ Device.judgeSetOutstanding (fun _ => rfl) fun _ => rfl,
    row _ _ Device.judgeMapFill (fun _ => rfl) fun _ => rfl, row _ _ Device.judgeMapCopy (fun _ => rfl) fun _ => rfl,
    row _ _ Device.judgeMapLine (fun _ => rfl) fun _ => rfl, row _ _ Device.judgeMapRun (fun _ => rfl) fun _ => rfl,
    row _ _ Device.judgeMapClear (fun _ => rfl) fun _ => rfl, row _ _ Device.judgeMapAbort (fun _ => rfl) fun _ => rfl,
    row _ _ Device.judgePassSend (fun _ => rfl) fun _ => rfl, row _ _ Device.judgeStart (fun _ => rfl) fun _ => rfl,
    row _ _ Device.judgeFlush (fun _ => rfl) fun _ => rfl, row _ _ Device.judgeResume (fun _ => rfl) fun _ => rfl⟩

/-- Every write of the command register is a judgement by its code. -/
theorem Device.writeCommand_judged (code : Byte) : ∃ judge : Device → CommandResult, ∀ d : Device, d.writeCommand code = d.command code judge := by
  by_cases known : ∃ e ∈ commandTable, e.1 = code
  · obtain ⟨e, mem, rfl⟩ := known
    obtain ⟨judge, -, write⟩ := commandTable_judged e mem
    exact ⟨judge, write⟩
  · refine ⟨fun _ => .refused .value, fun d => ?_⟩
    rcases d.writeCommand_cases code with ⟨c, mem, -⟩ | ⟨-, at_⟩
    · exact absurd ⟨_, mem, rfl⟩ known
    · exact at_

/-- A write of the command register's word is a write of its low byte (R188). -/
theorem exec_registerWrite_command (w : Word) (s : State) :
    exec (.registerWrite 0x004 w) s = .next ⟨s.device.writeCommand (w.extractLsb' 0 8), s.pending⟩ := rfl

/-- Behind a held START every command is refused with BUSY (R188). -/
theorem Device.command_of_startHeld {d : Device} (held : d.engine.startHeld = true) (code : Byte) (judge : Device → CommandResult) :
    d.command code judge = d.setStatus code .refused .busy := if_pos held

/-! ## The start of a handoff (R42, R43) -/

theorem Device.startHandoff_eq (d : Device) (c : Port) :
    d.startHandoff c = Device.changeState
      { d with
        stations := d.stations.set c { d.stations.get c with state := .taking }
        ports := d.ports.set c { d.ports.get c with control := (d.ports.get c).control ++ [.take (d.takePoint c)] }
        track := { d.track with
          candidate := some c
          lastTakePort := c
          latePort := if d.track.latePort = some c then none else d.track.latePort
          noCandidate := false
          currentOrder := d.track.currentOrder.set c (some .take)
          deadlines := { d.track.deadlines with handoff := some (d.tb + BitVec.ofNat 32 d.params.handoffTimeout) } } }
      .handoff false := rfl

/-- A station's grade allows a take on the host's word (R43). -/
def Grade.takes : Grade → Bool
  | .good | .fair | .poor | .barred => true
  | .stale | .held | .ineligible => false

theorem Device.judgeHandoffTo_of_port {d : Device} {p : Port} (port : portOfWord d.sbi.parameters.p0 = some p) :
    d.judgeHandoffTo =
      if d.track.state = .tracking ∧ (d.grade p).takes = true then .taken (d.startHandoff p) else .refused .state := by
  simp only [Device.judgeHandoffTo, port]
  by_cases state : d.track.state = .tracking
  · rw [if_neg (not_not.2 state)]
    generalize d.grade p = grade
    cases grade <;> simp [state, Grade.takes]
  · rw [if_pos state, if_neg fun h => state h.1]

/-! ## Transforms (R112, R113) -/

theorem Device.transformLocked_iff (d : Device) (p : Port) :
    d.transformLocked p = true ↔
      d.stationState p ∈ [StationState.owner, .taking, .searching] ∨ d.track.owner = some p := by
  simp [Device.transformLocked, or_assoc]

/-- The part with a transform record replaced, and the bearing record of its station emptied (R112, R113). -/
def Device.transformChanged (d : Device) (p : Port) (loaded : Bool) (state : StationState) : Device :=
  { d with
    xfu := { d.xfu with
      records := d.xfu.records.set p ⟨loaded, if loaded then d.sbi.staging else (d.xfu.records.get p).values⟩ }
    stations := d.stations.set p { d.stations.get p with
      transformGen := (d.stations.get p).transformGen + 1, state := state, query := none, answer := none }
    smu := { d.smu with
      lookups := d.smu.lookups.map fun l => if l.station = p then { l with forgotten := true } else l } }

theorem Device.loadTransform_eq (d : Device) (p : Port) :
    d.loadTransform p = (d.transformChanged p true
      (if d.stationState p = .unconfigured then .standby else d.stationState p)).joinAcquire p (d.eligible p) := by
  simp only [Device.loadTransform, Device.forgetBearing, Device.onStation, Device.onXfu, Device.onSmu, PerPort.get_set_self,
    PerPort.set_set]
  rfl

theorem Device.unloadTransform_eq (d : Device) (p : Port) :
    d.unloadTransform p = (d.transformChanged p false
      (if d.stationState p = .standby then .unconfigured else d.stationState p)).leavePending p := by
  simp only [Device.unloadTransform, Device.forgetBearing, Device.onStation, Device.onXfu, Device.onSmu, PerPort.get_set_self,
    PerPort.set_set]
  rfl

/-! ## Settings (R115, R116, R131) -/

theorem settingOfWord_bit (v : Bool) : settingOfWord (if v then 1 else 0) = some v := by cases v <;> rfl

theorem settingOfWord_eq_none {w : Word} (h : 1 < w.toNat) : settingOfWord w = none := by
  have zero : w ≠ 0 := fun at_ => by simp [at_] at h
  have one : w ≠ 1 := fun at_ => by simp [at_] at h
  rw [settingOfWord, if_neg zero, if_neg one]

/-- A counter counts several events, stopping at 65535. -/
theorem countTimes_eq (c : Half) (n : Nat) : countTimes c n = BitVec.ofNat 16 (min (c.toNat + n) 65535) := by
  have count : (countTimes c n).toNat = min (c.toNat + n) 65535 := by
    induction n with
    | zero =>
      have := c.isLt
      show c.toNat = _
      omega
    | succ n ih =>
      show (countUp (countTimes c n)).toNat = _
      rw [countUp_toNat, ih]
      omega
  rw [← count, BitVec.ofNat_toNat, BitVec.setWidth_eq]

theorem LinkPort.inFlight_isSome (l : LinkPort) : l.inFlight.isSome = true ↔ l.sending ≠ .idle := by
  unfold LinkPort.inFlight
  cases l.sending <;> simp

end Sys2Proof.Machine

namespace Sys2Proof

open Machine

/-- Settles O19. -/
theorem commandRegisterDispatches : Obligations.CommandRegisterDispatches := by
  refine ⟨⟨fun code c mem w s low => ?_, fun code d q free unknown => ?_⟩, fun d q held => ⟨fun code c mem => ?_, fun code => ?_⟩⟩
  · obtain ⟨judge, effect, write⟩ := commandTable_judged _ mem
    rw [exec_registerWrite_command, low, show exec c s = .next ⟨Instr.effect c s.device, s.pending⟩ from exec_eq_effect c _ _]
    rw [write, effect]
  · have refused : d.writeCommand code = d.setStatus code .refused .value := by
      rcases d.writeCommand_cases code with ⟨c, mem, -⟩ | ⟨-, at_⟩
      · exact absurd rfl (unknown _ mem)
      · rw [at_, Device.command_of_refused code free rfl]
    refine ⟨congrArg (fun e => Host.Outcome.next (State.mk e q)) refused, fun w low => ?_⟩
    rw [exec_registerWrite_command, low, refused]
  · obtain ⟨judge, effect, -⟩ := commandTable_judged _ mem
    rw [exec_eq_effect, effect, Device.command_of_startHeld held]
    rfl
  · obtain ⟨judge, write⟩ := Device.writeCommand_judged code
    have busy : d.writeCommand code = d.setStatus code .refused .busy := by rw [write, Device.command_of_startHeld held]
    refine ⟨congrArg (fun e => Host.Outcome.next (State.mk e q)) busy, fun w low => ?_⟩
    rw [exec_registerWrite_command, low, busy]
    rfl

/-- Settles O22. -/
theorem handoffToStartsTake : Obligations.HandoffToStartsTake := by
  intro d q free
  have run : Instr.effect .handoffTo d = d.command 0x03 Device.judgeHandoffTo := rfl
  refine ⟨fun c port state grade k query => ?_, fun out => ?_, fun c port fails => ?_⟩
  · have takes : (d.grade c).takes = true := by
      simp only [List.mem_cons, List.not_mem_nil, or_false] at grade
      rcases grade with at_ | at_ | at_ | at_ <;> rw [at_] <;> rfl
    have judged : d.judgeHandoffTo = .taken (d.startHandoff c) := by
      rw [Device.judgeHandoffTo_of_port ((portOfWord_eq_some _ _).2 port)]
      exact if_pos ⟨state, takes⟩
    have point : d.takePoint c = k.point := by rw [Device.takePoint, query]
    rw [exec_of_taken run free judged, Device.startHandoff_eq, point]
  · refine exec_of_refused run free ?_ q
    rw [Device.judgeHandoffTo, (portOfWord_eq_none _).2 out]
  · refine exec_of_refused run free ?_ q
    rw [Device.judgeHandoffTo_of_port ((portOfWord_eq_some _ _).2 port)]
    refine if_neg fun h => ?_
    rcases fails with state | grade
    · exact state h.1
    · have takes := h.2
      simp only [List.mem_cons, List.not_mem_nil, or_false] at grade
      rcases grade with at_ | at_ | at_ <;> rw [at_] at takes <;> cases takes

/-- Settles O23. -/
theorem transformsLoadedAndUnloaded : Obligations.TransformsLoadedAndUnloaded := by
  intro d q free changed
  have load : Instr.effect .loadTransform d = d.command 0x10 Device.judgeLoad := rfl
  have unload : Instr.effect .unloadTransform d = d.command 0x11 Device.judgeUnload := rfl
  refine ⟨fun p port state owner => ?_, fun p port locked => ?_, fun out => ?_⟩
  · have open_ : ¬ d.transformLocked p = true := by
      rw [d.transformLocked_iff]
      simp only [List.mem_cons, List.not_mem_nil, or_false] at state ⊢
      rcases state with at_ | at_ | at_ <;> simp [at_, owner]
    refine ⟨?_, ?_⟩
    · intro after
      have judged : d.judgeLoad = .taken (d.loadTransform p) := by
        rw [Device.judgeLoad, (portOfWord_eq_some _ _).2 port]
        exact if_neg open_
      have state_ : (if d.stationState p = .unconfigured then StationState.standby else d.stationState p) =
          if d.stationState p = .absent then .absent else .standby := by
        simp only [List.mem_cons, List.not_mem_nil, or_false] at state
        rcases state with at_ | at_ | at_ <;> simp [at_]
      rw [exec_of_taken load free judged, Device.loadTransform_eq, state_]
      rfl
    · intro after
      have judged : d.judgeUnload = .taken (if d.hasTransform p = false then d else d.unloadTransform p) := by
        rw [Device.judgeUnload, (portOfWord_eq_some _ _).2 port]
        simp only [if_neg open_]
        cases d.hasTransform p <;> rfl
      have state_ : (if d.stationState p = .standby then StationState.unconfigured else d.stationState p) =
          if d.stationState p = .absent then .absent else .unconfigured := by
        simp only [List.mem_cons, List.not_mem_nil, or_false] at state
        rcases state with at_ | at_ | at_ <;> simp [at_]
      rw [exec_of_taken unload free judged, Device.unloadTransform_eq, state_]
      rfl
  · have closed := (d.transformLocked_iff p).2 locked
    refine ⟨exec_of_refused load free ?_ q, exec_of_refused unload free ?_ q⟩
    · rw [Device.judgeLoad, (portOfWord_eq_some _ _).2 port]
      exact if_pos closed
    · rw [Device.judgeUnload, (portOfWord_eq_some _ _).2 port]
      exact if_pos closed
  · refine ⟨exec_of_refused load free ?_ q, exec_of_refused unload free ?_ q⟩
    · rw [Device.judgeLoad, (portOfWord_eq_none _).2 out]
    · rw [Device.judgeUnload, (portOfWord_eq_none _).2 out]

/-- Settles O24. -/
theorem settingsTaken : Obligations.SettingsTaken := by
  refine ⟨fun d q free => ?_, fun d q free => ?_⟩
  · have learning : Instr.effect .setLearning d = d.command 0x13 Device.judgeSetLearning := rfl
    have quiet : Instr.effect .setQuiet d = d.command 0x12 Device.judgeSetQuiet := rfl
    refine ⟨fun p v port value => ?_, fun out => ?_, fun low value => ?_, fun p => ⟨?_, ?_⟩⟩
    · have port_ := (portOfWord_eq_some _ _).2 port
      have value_ : settingOfWord d.sbi.parameters.p1 = some v := by rw [value, settingOfWord_bit]
      refine ⟨exec_of_taken learning free ?_ q, ?_⟩
      · rw [Device.judgeSetLearning, port_, value_]
        rfl
      · have judged : d.judgeSetQuiet = .taken (d.requestQuiet p v) := by rw [Device.judgeSetQuiet, port_, value_]
        have request : d.requestQuiet p v =
            if (d.stations.get p).quiet = v ∧ (d.stations.get p).quietPending = none then d
            else if (d.ports.get p).sending = .idle then d.setQuiet p v
            else { d with stations := d.stations.set p { d.stations.get p with quietPending := some v } } := by
          simp only [Device.requestQuiet, LinkPort.inFlight_isSome]
          by_cases same : (d.stations.get p).quiet = v ∧ (d.stations.get p).quietPending = none
          · rw [if_pos same, if_pos same]
          · rw [if_neg same, if_neg same]
            by_cases idle : (d.ports.get p).sending = .idle
            · rw [if_neg (not_not.2 idle), if_pos idle]
            · rw [if_pos idle, if_neg idle]
              rfl
        rw [exec_of_taken quiet free judged, request]
    · have port := (portOfWord_eq_none _).2 out
      refine ⟨exec_of_refused learning free ?_ q, exec_of_refused quiet free ?_ q⟩
      · rw [Device.judgeSetLearning, port]
      · rw [Device.judgeSetQuiet, port]
    · obtain ⟨p, port⟩ : ∃ p, portOfWord d.sbi.parameters.p0 = some p :=
        ⟨⟨d.sbi.parameters.p0.toNat, Nat.lt_succ_of_le low⟩, (portOfWord_eq_some _ _).2 rfl⟩
      have value_ := settingOfWord_eq_none value
      refine ⟨exec_of_refused learning free ?_ q, exec_of_refused quiet free ?_ q⟩
      · rw [Device.judgeSetLearning, port, value_]
      · rw [Device.judgeSetQuiet, port, value_]
    · rfl
    · rfl
  · intro limit
    have run : Instr.effect .setOutstanding d = d.command 0x14 Device.judgeSetOutstanding := rfl
    refine ⟨fun p port low high => ?_, fun bad => ?_⟩
    · intro lost
      have judged : d.judgeSetOutstanding = .taken (d.setOutstanding p limit) := by
        rw [Device.judgeSetOutstanding, (portOfWord_eq_some _ _).2 port]
        exact if_pos ⟨low, high⟩
      rw [exec_of_taken run free judged]
      simp only [Device.setOutstanding, countTimes_eq]
      rfl
    · refine exec_of_refused run free ?_ q
      rw [Device.judgeSetOutstanding]
      cases port : portOfWord d.sbi.parameters.p0 with
      | none => rfl
      | some p =>
        have inside := (portOfWord_eq_some _ _).1 port
        refine if_neg fun range => ?_
        have := p.isLt
        omega

end Sys2Proof
end

section
/-! PROOFS. The resets, the deadlines of the track unit and the path scan results: O3, O4, O34, O41, O42, O43. -/

namespace Sys2Proof.Machine

/-! ## Deadlines (R3) -/

/-- A deadline waits while the time base is not later than it. -/
theorem expired_eq_false {now : Word} {deadline : Option Word} (h : ∀ t, deadline = some t → (now - t).toInt ≤ 0) :
    expired now deadline = false := by
  rw [Bool.eq_false_iff, Ne, expired_iff]
  rintro ⟨t, at_, later⟩
  exact absurd later (Int.not_lt.2 (h t at_))

theorem expired_eq_true {now : Word} {deadline : Option Word} {t : Word} (at_ : deadline = some t) (later : 0 < (now - t).toInt) :
    expired now deadline = true := (expired_iff _ _).2 ⟨t, at_, later⟩

/-! ## The query queue (R37, R133) -/

/-- A waiting request of its station is replaced in its place, or the request joins at the back. -/
theorem Xfu.placeInverse_queue (x : Xfu) (r : InverseRequest) :
    (x.placeInverse r).queryQueue =
      x.queryQueue.map (fun q => if q.station = r.station then r else q) ++
        (if x.queryQueue.any (fun q => decide (q.station = r.station)) then [] else [r]) := by
  unfold Xfu.placeInverse
  split
  · simp
  · next has =>
    have kept : x.queryQueue.map (fun q => if q.station = r.station then r else q) = x.queryQueue := by
      refine (List.map_congr_left fun q mem => if_neg fun same => has ?_).trans (List.map_id _)
      exact List.any_eq_true.2 ⟨q, mem, by simpa using same⟩
    simp [kept]

/-- Requests of one kind placed for several stations: each takes the place of its station's waiting request, and the others join at the
back in their order. -/
theorem Xfu.placeInverses_queue (x : Xfu) (l : List Port) (nodup : l.Nodup) (kind : InverseKind) (point : Vec3) :
    l.foldl (fun x p => x.placeInverse ⟨p, kind, point⟩) x =
      { x with queryQueue :=
          x.queryQueue.map (fun r => if r.station ∈ l then ⟨r.station, kind, point⟩ else r) ++
            (l.filter fun p => !x.queryQueue.any fun r => decide (r.station = p)).map fun p => ⟨p, kind, point⟩ } := by
  induction l generalizing x with
  | nil => simp
  | cons p l ih =>
    obtain ⟨notIn, nodup⟩ := List.nodup_cons.1 nodup
    rw [List.foldl_cons, ih _ nodup]
    refine congrArg (fun queue => ({ x with queryQueue := queue } : Xfu)) ?_
    have stations : ∀ r ∈ l, (x.placeInverse ⟨p, kind, point⟩).queryQueue.any (fun q => decide (q.station = r)) =
        x.queryQueue.any fun q => decide (q.station = r) := by
      intro r mem
      have other : p ≠ r := fun at_ => notIn (at_ ▸ mem)
      rw [Xfu.placeInverse_queue, List.any_append, List.any_map]
      have back : (if x.queryQueue.any (fun q => decide (q.station = p)) then []
          else [(⟨p, kind, point⟩ : InverseRequest)]).any (fun q => decide (q.station = r)) = false := by
        split <;> simp [other]
      rw [back, Bool.or_false]
      refine congrArg (x.queryQueue.any ·) (funext fun q => ?_)
      by_cases at_ : q.station = p <;> simp [at_]
    rw [List.filter_congr fun r mem => congrArg (!·) (stations r mem), Xfu.placeInverse_queue, List.map_append, List.map_map,
      List.append_assoc]
    refine congrArg₂ (· ++ ·) (List.map_congr_left fun q _ => ?_) ?_
    · by_cases at_ : q.station = p <;> simp [at_, notIn]
    · by_cases has : x.queryQueue.any (fun q => decide (q.station = p)) = true <;>
        simp [has, notIn]

/-- The queries of a tick, placed as one (R37). -/
theorem Device.placeQueries_eq (d : Device) (point : Vec3) :
    d.placeQueries point =
      { d with xfu := (allPorts.filter d.eligible).foldl (fun x p => x.placeInverse ⟨p, .query, point⟩) d.xfu } := by
  have fold : ∀ (l : List Port) (e : Device), e.eligible = d.eligible →
      l.foldl (fun d p => if d.eligible p then d.onXfu fun x => x.placeInverse ⟨p, .query, point⟩ else d) e =
      { e with xfu := (l.filter d.eligible).foldl (fun x p => x.placeInverse ⟨p, .query, point⟩) e.xfu } := by
    intro l
    induction l with
    | nil => intro e _; rfl
    | cons p l ih =>
      intro e same
      rw [List.foldl_cons, same, List.filter_cons]
      by_cases asked : d.eligible p = true
      · rw [if_pos asked, if_pos asked]
        exact ih (e.onXfu fun x => x.placeInverse ⟨p, .query, point⟩) same
      · rw [if_neg asked, if_neg asked]
        exact ih e same
  exact fold allPorts d rfl

/-- The choice acts: a handoff, or no_candidate (R40, R63). -/
theorem Device.tryHandoff_eq (d : Device) :
    d.tryHandoff =
      match d.choose with
      | some c => d.startHandoff c
      | none => { d with track := { d.track with noCandidate := true } } := by
  unfold Device.tryHandoff
  cases d.choose <;> rfl

/-! ## Failed-take learning (R82) -/

theorem Device.learnFailedTake_eq (d : Device) (c : Port) :
    d.learnFailedTake c =
      { d with smu := { d.smu with learnQueue :=
          match (d.stations.get c).answer with
          | some a => d.smu.learnQueue ++ [⟨.track, c, a.az, a.el, .failedTake⟩]
          | none => d.smu.learnQueue } } := by
  unfold Device.learnFailedTake
  cases (d.stations.get c).answer <;> rfl

/-- The SEARCHING stations released at the end of a search (R35, R73). -/
theorem Device.releaseSearchers_eq (d : Device) (reason : ReleaseReason) :
    d.releaseSearching reason none = d.withPlaces
      (eachPort fun p =>
        if decide (d.stationState p = .searching) then { d.stations.get p with state := .standby } else d.stations.get p)
      (eachPort fun p =>
        if decide (d.stationState p = .searching) then ((d.ports.get p).placeRelease reason).endOrder else d.ports.get p)
      (eachPort fun p => if decide (d.stationState p = .searching) then none else d.track.currentOrder.get p) := by
  rw [Device.releaseSearching_eq]
  refine Device.withPlaces_congr d (fun p => ?_) (fun p => ?_) (fun p => ?_) <;> rw [get_eachPort, get_eachPort]
  · by_cases at_ : d.stationState p = .searching
    · have state : (d.stations.get p).state = .searching := at_
      simp [at_, Station.standing, state]
    · simp [at_]
  · by_cases at_ : d.stationState p = .searching <;> simp [at_, LinkPort.released]
  · by_cases at_ : d.stationState p = .searching <;> simp [at_]

end Sys2Proof.Machine

namespace Sys2Proof

open Machine

/-- Settles O3. -/
theorem resetsRestoreValues : Obligations.ResetsRestoreValues := by
  refine ⟨fun d q => ⟨_, rfl, rfl, rfl, rfl, ?_, rfl, ?_, rfl, rfl, rfl, rfl, rfl, rfl, rfl, rfl, ?_, rfl, rfl, rfl, ?_, rfl, rfl, rfl,
    rfl, rfl, rfl, rfl, rfl, rfl, rfl, rfl⟩, fun keep d q => ⟨_, rfl, ?_⟩⟩
  · exact fun p => PerPort.get_same _ p
  · intro p
    have record : d.hardwareReset.xfu.records.get p = .reset := PerPort.get_same _ p
    refine ⟨?_, ?_, PerPort.get_same _ p, PerPort.get_same _ p⟩
    · show (d.hardwareReset.xfu.records.get p).loaded = _
      rw [record]
      rfl
    · show (d.hardwareReset.xfu.records.get p).values = _
      rw [record]
      rfl
  · exact fun p => PerPort.get_same _ p
  · exact fun p => ⟨PerPort.get_same _ p, PerPort.get_same _ p⟩
  · refine congrArg (fun e => Host.Outcome.next (State.mk e q)) ?_
    cases keep with
    | false => rfl
    | true =>
      simp only [Device.softReset, if_true, true_and]
      cases sweep : d.smu.sweep with
      | none => rfl
      | some a => rfl

/-- Settles O4. -/
theorem resetMeetsInvariant : Obligations.ResetMeetsInvariant := by
  have reset : Device.ResetFrom (.hardwareResetWith []) (State.reset.device) := Device.hardwareReset_resetFrom (.hardwareResetWith [])
  refine ⟨⟨by decide, rfl, by decide, by decide⟩, ?_, reset.ranges, reset.balanced.conserves, reset.balanced.bounded, reset.ordered,
    reset.shown, fun p => ?_, fun p => ?_, ?_, reset.bearings⟩
  · exact ⟨rfl, rfl, rfl, rfl, rfl, by decide, by decide, by decide, rfl, by decide, rfl, by decide⟩
  · have port : State.reset.device.ports.get p = .reset := PerPort.get_same _ p
    have station : State.reset.device.stationState p = .absent := congrArg Station.state (PerPort.get_same Station.reset p)
    refine ⟨?_, ?_, ?_, ?_, ?_, ?_, .inl ?_⟩ <;> rw [port]
    · simp [station, LinkPort.reset]
    · exact fun _ => ⟨rfl, rfl, rfl, rfl, rfl, rfl⟩
    · exact Nat.zero_le _
    · exact Nat.zero_le _
    · exact Nat.zero_le _
    · simp [LinkPort.reset]
    · rfl
  · have port : State.reset.device.ports.get p = .reset := PerPort.get_same _ p
    rw [port]
    exact ⟨by decide, fun chars at_ => by simp [LinkPort.reset] at at_, fun f n at_ => by simp [LinkPort.reset] at at_⟩
  · exact ⟨rfl, by simp [State.reset, Device.hardwareResetWith, Smu.resetWith], fun a at_ => Option.some.inj at_ ▸ (by decide),
      fun _ => rfl, fun c at_ => by simp [State.reset, Device.hardwareResetWith, Smu.resetWith] at at_⟩

/-- Settles O34. -/
theorem pathResultsAct : Obligations.PathResultsAct := by
  refine ⟨fun d q s rest r scans result => ?_, fun d q none_ => ?_⟩
  · intro taken kept
    refine congrArg (fun e => Host.Outcome.next (State.mk e q)) ?_
    have handed : d.handBackScan = taken.pathResultArrives s.port r := by simp only [Device.handBackScan, scans, result]; rfl
    have breaks : r.predictsBreak d.params.suspectLimit = true ↔ r.obstacle ≠ none ∨ d.params.suspectLimit ≤ r.suspect := by
      simp [PathResult.predictsBreak, Option.isSome_iff_ne_none]
    have tried : kept.tryHandoff = match d.choose with
        | some c => kept.startHandoff c
        | none => { kept with track := { kept.track with noCandidate := true } } := kept.tryHandoff_eq
    show d.handBackScan = _
    rw [handed]
    by_cases acts : (d.track.state = .tracking ∨ d.track.state = .handoff) ∧ d.track.blind = false ∧ d.track.owner = some s.port
    · rw [if_pos acts]
      refine (if_pos acts).trans ?_
      by_cases state : d.track.state = .handoff
      · rw [if_pos state]
        exact if_neg (by simp [taken, state])
      · rw [if_neg state]
        refine (if_pos (acts.1.resolve_right state)).trans ?_
        by_cases predicted : r.obstacle ≠ none ∨ d.params.suspectLimit ≤ r.suspect
        · rw [if_pos predicted]
          exact (if_pos (breaks.2 predicted)).trans tried
        · rw [if_neg predicted]
          exact if_neg fun h => predicted (breaks.1 h)
    · rw [if_neg acts]
      exact if_neg acts
  · refine congrArg (fun e => Host.Outcome.next (State.mk e q)) ?_
    show d.handBackScan = d
    unfold Device.handBackScan
    split
    · rfl
    · next s rest scans =>
      rw [scans] at none_
      rw [none_ s rfl]

/-- Settles O41. -/
theorem deadlinesWaitAndHoldOffEnds : Obligations.DeadlinesWaitAndHoldOffEnds := by
  refine ⟨?_, fun d q p t at_ later => ?_⟩
  · intro d q p waits
    have still : ∀ {c : Instr}, Instr.effect c d = d → exec c ⟨d, q⟩ = .next ⟨d, q⟩ := fun {c} h => by
      rw [exec_eq_effect, h]
    refine ⟨fun h => still ?_, fun h => still ?_, fun h => still ?_, fun h => still ?_, fun h => still ?_, fun h => still ?_,
      fun h => still ?_, fun h => still ?_⟩
    · exact if_neg (by rw [expired_eq_false h]; decide)
    · exact if_neg (by rw [expired_eq_false h]; simp)
    · exact if_neg (by rw [expired_eq_false h]; decide)
    · exact if_neg (by rw [expired_eq_false h]; decide)
    · exact if_neg (by rw [expired_eq_false h]; decide)
    · exact if_neg (by rw [expired_eq_false h]; decide)
    · exact if_neg (by rw [expired_eq_false h]; decide)
    · exact if_neg (by rw [expired_eq_false h]; decide)
  · exact congrArg (fun e => Host.Outcome.next (State.mk e q)) (if_pos (expired_eq_true at_ later))

/-- Settles O42: the fold of requests is the map of the waiting ones and the fresh ones. -/
theorem queryAndOutputTicks : Obligations.QueryAndOutputTicks := by
  refine ⟨fun d q t at_ later => ?_, fun d q t at_ later blind state => ?_⟩
  · intro at_' axis point asked fresh ticked
    refine congrArg (fun e => Host.Outcome.next (State.mk e q)) ?_
    have eligible : d.eligible = asked := rfl
    have queue := Xfu.placeInverses_queue d.xfu (allPorts.filter d.eligible) (allPorts_nodup.filter _) .query point
    have ask : ((d.placeQueries d.queryPoint).onDeadlines fun l =>
        { l with query := some (timeAfter d.tb d.params.queryInterval) }) = ticked := by
      rw [Device.placeQueries_eq, show d.queryPoint = point from rfl, queue]
      have waiting : (fun r : InverseRequest => if r.station ∈ allPorts.filter d.eligible then
          (⟨r.station, .query, point⟩ : InverseRequest) else r) =
          fun r => if asked r.station then ⟨r.station, .query, point⟩ else r := by
        refine funext fun r => ?_
        rw [← eligible]
        by_cases is : d.eligible r.station = true <;> simp [is, allPorts_mem]
      rw [waiting, List.filter_filter]
      simp only [ticked, fresh, eligible, Bool.and_comm]
      rfl
    show d.queryExpires = _
    rw [Device.queryExpires, if_pos (expired_eq_true at_ later)]
    simp only [Device.queryTick]
    rw [ask]
    exact if_congr Iff.rfl ticked.tryHandoff_eq rfl
  · intro exact_ x y z fit
    refine congrArg (fun e => Host.Outcome.next (State.mk e q)) ?_
    have predicts : d.track.predicts = true := by
      rcases state with at_ | at_ <;> simp [Track.predicts, blind, at_]
    have sat : (d.track.predict d.tb).overflows32 = decide (¬ (fit x = x ∧ fit y = y ∧ fit z = z)) := by
      have wide : (d.track.predict d.tb).overflows32 = (decide (fit x ≠ x) || decide (fit y ≠ y) || decide (fit z ≠ z)) := rfl
      rw [wide]
      simp only [not_and_or, Bool.decide_or, Bool.or_assoc, ne_eq]
    have flags : d.track.recordFlags (d.track.predict d.tb).overflows32 false false =
        ⟨decide (¬ (fit x = x ∧ fit y = y ∧ fit z = z)), false, false, true, d.track.pathResult.longPath, d.track.noCandidate⟩ := by
      rw [sat, Track.recordFlags, blind]
    show d.outputExpires = _
    have due : (expired d.tb d.track.deadlines.output && d.track.predicts) = true := by
      rw [expired_eq_true at_ later, predicts]
      rfl
    rw [← flags]
    exact if_pos due

/-- Settles O43. -/
theorem trackDeadlinesEnd : Obligations.TrackDeadlinesEnd := by
  refine ⟨fun d q t at_ later state c candidate => ?_, fun d q => ⟨fun t at_ later => ?_, fun t at_ later state => ?_⟩⟩
  · refine congrArg (fun e => Host.Outcome.next (State.mk e q)) ?_
    show d.handoffExpires = _
    rw [Device.handoffExpires, if_pos (expired_eq_true at_ later), state, candidate]
    simp only [Device.timeoutTake]
    rw [Device.releaseStation_eq, Device.learnFailedTake_eq]
    simp only [Device.withPlaces, PerPort.get_set_self, Station.standing]
    rfl
  · intro ended
    have expires : d.coastExpires = match d.track.state with
        | .coast => ended.enterSearch
        | .handoff => ended.onTrack fun t => { t with coastExpired := true }
        | _ => d := if_pos (expired_eq_true at_ later)
    refine ⟨fun state => congrArg (fun e => Host.Outcome.next (State.mk e q)) (expires.trans ?_),
      fun state => congrArg (fun e => Host.Outcome.next (State.mk e q)) (expires.trans ?_)⟩
    · rw [state]
    · rw [state]
      rfl
  · intro searches
    refine congrArg (fun e => Host.Outcome.next (State.mk e q)) ?_
    show d.searchExpires = _
    rw [Device.searchExpires, if_pos (expired_eq_true at_ later)]
    have released : (d.releaseSearching .searchEnd none).enterLost = _ := congrArg Device.enterLost (d.releaseSearchers_eq .searchEnd)
    rcases state with at_ | at_ <;> rw [at_] <;> exact released

end Sys2Proof
end

section
/-! PROOFS. The frames of the station links: O48, O49. -/

namespace Sys2Proof.Machine

/-! ## Fields and their bytes (R192) -/

theorem half_eq_bytes (h : Half) : h.extractLsb' 8 8 ++ h.extractLsb' 0 8 = h := by
  rw [BitVec.extractLsb'_append_extractLsb'_eq_extractLsb' (by omega)]
  simp

theorem readObs_obsPayload (r : ObsReport) : readObs (obsPayload r) = r := by
  simp [readObs, obsPayload, wordAt, halfAt, byteAt, wordBytes, halfBytes, word_eq_bytes, half_eq_bytes]

theorem readBreak_breakPayload (r : BreakReport) : readBreak (breakPayload r) = r := by
  simp [readBreak, breakPayload, halfAt, byteAt, halfBytes, half_eq_bytes]

theorem readBearing_bearingPayload (r : BearingReport) : readBearing (bearingPayload r) = r := by
  simp [readBearing, bearingPayload, halfAt, byteAt, halfBytes, half_eq_bytes]

theorem readIdentity_identityPayload (i : Identity) : readIdentity (identityPayload i) = i := by
  simp [readIdentity, identityPayload, wordAt, halfAt, byteAt, wordBytes, halfBytes, word_eq_bytes, half_eq_bytes]

/-! ## The sum of a frame (R145) -/

theorem byteSum_eq_sum (l : List Byte) : byteSum l = l.sum := by
  have from_ : ∀ (l : List Byte) (a : Byte), l.foldl (fun a b => a + b) a = a + l.sum := by
    intro l
    induction l with
    | nil => intro a; simp
    | cons b l ih => intro a; rw [List.foldl_cons, ih, List.sum_cons, BitVec.add_assoc]
  exact (from_ l 0).trans (BitVec.zero_add _)

theorem byteSum_frameBytes (kind seq : Byte) (payload : List Byte) : byteSum (frameBytes kind seq payload) = 0 := by
  simp only [frameBytes, byteSum_eq_sum, List.sum_append, List.sum_cons, List.sum_nil]
  bv_omega

/-- One byte changed changes the sum (R145). -/
theorem byteSum_set_ne {l : List Byte} {i : Nat} {b : Byte} (inside : i < l.length) (changed : l.getD i 0 ≠ b) :
    byteSum (l.set i b) ≠ byteSum l := by
  rw [byteSum_eq_sum, byteSum_eq_sum]
  induction l generalizing i with
  | nil => simp at inside
  | cons a l ih =>
    cases i with
    | zero =>
      intro same
      refine changed ?_
      simp only [List.set_cons_zero, List.sum_cons] at same
      simp only [List.getD_cons_zero]
      bv_omega
    | succ i =>
      intro same
      refine ih (by simpa using inside) (by simpa using changed) ?_
      simp only [List.set_cons_succ, List.sum_cons] at same
      bv_omega

/-! ## The data characters of a frame (R148) -/

theorem dataBytes_map_data (bytes : List Byte) : dataBytes (bytes.map .data) = bytes := by
  induction bytes with
  | nil => rfl
  | cons b bytes ih => exact congrArg (b :: ·) ih

theorem firstPosition_eq_none {test : LineChar → Bool} {chars : List LineChar} (none_ : ∀ c ∈ chars, test c = false) :
    firstPosition test chars = none := by
  simpa [firstPosition, List.findIdx?_eq_none_iff] using none_

theorem firstPosition_append {test : LineChar → Bool} {before : List LineChar} {c : LineChar} (none_ : ∀ c ∈ before, test c = false)
    (first : test c = true) (after : List LineChar) : firstPosition test (before ++ c :: after) = some (before.length + 1) := by
  rw [firstPosition, List.findIdx?_append, List.findIdx?_eq_none_iff.2 none_]
  simp [List.findIdx?_cons, first]

theorem isParityErrorChar_eq_false {c : LineChar} (h : c ≠ .parityError) : isParityErrorChar c = false := decide_eq_false h

theorem data_not_parityError (bytes : List Byte) : ∀ c ∈ bytes.map LineChar.data, isParityErrorChar c = false := by
  intro c mem
  obtain ⟨b, _, rfl⟩ := List.mem_map.1 mem
  rfl

theorem data_not_control (bytes : List Byte) : ∀ c ∈ bytes.map LineChar.data, isControlChar c = false := by
  intro c mem
  obtain ⟨b, _, rfl⟩ := List.mem_map.1 mem
  rfl

/-- The judgement of a frame whose characters are all data (R149). -/
theorem judgeFrame_data (bytes : List Byte) (ending : FrameEnd) :
    judgeFrame (bytes.map .data) ending =
      if ending = .sof then .failed .check (bytes.length + 1)
      else if ending = .overlong then .failed .check 29
      else if bytes.length < 4 then .failed .check (bytes.length + 1)
      else if 24 < (byteAt bytes 2).toNat then .failed .check 3
      else if bytes.length ≠ (byteAt bytes 2).toNat + 4 then .failed .check (bytes.length + 1)
      else if byteSum bytes ≠ 0 then .failed .check bytes.length
      else judgeFormat bytes := by
  simp only [judgeFrame, firstPosition_eq_none (data_not_parityError bytes), firstPosition_eq_none (data_not_control bytes),
    dataBytes_map_data, List.length_map]

/-! ## The bytes of a frame (R145) -/

theorem frameBytes_length (kind seq : Byte) (payload : List Byte) : (frameBytes kind seq payload).length = payload.length + 4 := by
  simp [frameBytes]

theorem frameBytes_lengthByte {kind seq : Byte} {payload : List Byte} (fits : payload.length ≤ 24) :
    (byteAt (frameBytes kind seq payload) 2).toNat = payload.length := by
  show (BitVec.ofNat 8 payload.length).toNat = _
  rw [BitVec.toNat_ofNat]
  omega

/-- The payload is what follows the length byte, as far as it says. -/
theorem frameBytes_payload (kind seq : Byte) (payload : List Byte) :
    ((frameBytes kind seq payload).drop 3).take payload.length = payload := by
  show (payload ++ [_]).take payload.length = payload
  exact List.take_left' rfl

theorem judgeFrame_frameBytes {kind seq : Byte} {payload : List Byte} (fits : payload.length ≤ 24) :
    judgeFrame ((frameBytes kind seq payload).map .data) .eof = judgeFormat (frameBytes kind seq payload) := by
  rw [judgeFrame_data, frameBytes_lengthByte fits, frameBytes_length, byteSum_frameBytes]
  rw [if_neg (by decide), if_neg (by decide), if_neg (by omega), if_neg (by omega), if_neg (by omega), if_neg (by simp)]

/-- The format checks of a frame by its kind and payload (R151). -/
theorem judgeFormat_frameBytes {kind seq : Byte} {payload : List Byte} (fits : payload.length ≤ 24) :
    judgeFormat (frameBytes kind seq payload) =
      if kind = kindObs then (if payload.length = 20 then .good (.obs seq (readObs payload)) else .badFormat 3)
      else if kind = kindLock then (if payload.length = 20 then .good (.lock seq (readObs payload)) else .badFormat 3)
      else if kind = kindBreak then
        (if payload.length = 8 then
          (if 1 ≤ (byteAt payload 6).toNat ∧ (byteAt payload 6).toNat ≤ 3 then .good (.beamBreak (readBreak payload))
           else .badFormat 10)
         else .badFormat 3)
      else if kind = kindBearing then
        (if payload.length = 6 then
          (if (byteAt payload 1).toNat ≤ 1 then .good (.bearing (readBearing payload)) else .badFormat 5)
         else .badFormat 3)
      else if kind = kindFail then
        (if payload.length = 2 then .good (.fail (byteAt payload 0) (byteAt payload 1)) else .badFormat 3)
      else if kind = kindIdent then (if payload.length = 12 then .good (.ident (readIdentity payload)) else .badFormat 3)
      else if kind = kindPass then (if payload.length ≤ 24 then .good (.pass payload) else .badFormat 3)
      else .badFormat 1 := by
  simp only [judgeFormat, frameBytes_lengthByte fits, frameBytes_payload]
  rfl

theorem judgeFrame_obs (seq : Byte) (r : ObsReport) :
    judgeFrame ((frameBytes kindObs seq (obsPayload r)).map .data) .eof = .good (.obs seq r) := by
  have length : (obsPayload r).length = 20 := rfl
  rw [judgeFrame_frameBytes (by omega), judgeFormat_frameBytes (by omega), if_pos rfl, if_pos length, readObs_obsPayload]

theorem judgeFrame_lock (seq : Byte) (r : ObsReport) :
    judgeFrame ((frameBytes kindLock seq (obsPayload r)).map .data) .eof = .good (.lock seq r) := by
  have length : (obsPayload r).length = 20 := rfl
  rw [judgeFrame_frameBytes (by omega), judgeFormat_frameBytes (by omega), if_neg (by decide), if_pos rfl, if_pos length,
    readObs_obsPayload]

theorem judgeFrame_break (seq : Byte) {r : BreakReport} (low : 1 ≤ r.reason.toNat) (high : r.reason.toNat ≤ 3) :
    judgeFrame ((frameBytes kindBreak seq (breakPayload r)).map .data) .eof = .good (.beamBreak r) := by
  have length : (breakPayload r).length = 8 := rfl
  have reason : byteAt (breakPayload r) 6 = r.reason := rfl
  rw [judgeFrame_frameBytes (by omega), judgeFormat_frameBytes (by omega), if_neg (by decide), if_neg (by decide), if_pos rfl,
    if_pos length, reason, if_pos ⟨low, high⟩, readBreak_breakPayload]

theorem judgeFrame_bearing (seq : Byte) {r : BearingReport} (reach : r.reach.toNat ≤ 1) :
    judgeFrame ((frameBytes kindBearing seq (bearingPayload r)).map .data) .eof = .good (.bearing r) := by
  have length : (bearingPayload r).length = 6 := rfl
  have second : byteAt (bearingPayload r) 1 = r.reach := rfl
  rw [judgeFrame_frameBytes (by omega), judgeFormat_frameBytes (by omega), if_neg (by decide), if_neg (by decide),
    if_neg (by decide), if_pos rfl, if_pos length, second, if_pos reach, readBearing_bearingPayload]

theorem judgeFrame_fail (seq k r : Byte) :
    judgeFrame ((frameBytes kindFail seq [k, r]).map .data) .eof = .good (.fail k r) := by
  rw [judgeFrame_frameBytes (by simp), judgeFormat_frameBytes (by simp), if_neg (by decide), if_neg (by decide),
    if_neg (by decide), if_neg (by decide), if_pos rfl]
  exact if_pos rfl

theorem judgeFrame_ident (seq : Byte) (i : Identity) :
    judgeFrame ((frameBytes kindIdent seq (identityPayload i)).map .data) .eof = .good (.ident i) := by
  have length : (identityPayload i).length = 12 := rfl
  rw [judgeFrame_frameBytes (by omega), judgeFormat_frameBytes (by omega), if_neg (by decide), if_neg (by decide),
    if_neg (by decide), if_neg (by decide), if_neg (by decide), if_pos rfl, if_pos length, readIdentity_identityPayload]

theorem judgeFrame_pass (seq : Byte) {payload : List Byte} (fits : payload.length ≤ 24) :
    judgeFrame ((frameBytes kindPass seq payload).map .data) .eof = .good (.pass payload) := by
  rw [judgeFrame_frameBytes fits, judgeFormat_frameBytes fits, if_neg (by decide), if_neg (by decide), if_neg (by decide),
    if_neg (by decide), if_neg (by decide), if_neg (by decide), if_pos rfl, if_pos fits]

/-! ## The bits of a character (R144, R192) -/

/-- One bit turned over turns the parity of the ones. -/
theorem sum_modify_parity {bits : List Nat} (bit : ∀ b ∈ bits, b ≤ 1) {i : Nat} (inside : i < bits.length) :
    (bits.modify i fun b => 1 - b).sum % 2 = (bits.sum + 1) % 2 := by
  induction bits generalizing i with
  | nil => simp at inside
  | cons b bits ih =>
    have low : b ≤ 1 := bit b List.mem_cons_self
    cases i with
    | zero =>
      simp only [List.modify_zero_cons, List.sum_cons]
      omega
    | succ i =>
      have rest := ih (fun b mem => bit b (List.mem_cons_of_mem _ mem)) (by simpa using inside)
      simp only [List.modify_succ_cons, List.sum_cons]
      omega

theorem characterBits_le (control : Bool) (v : Byte) : ∀ b ∈ characterBits control v, b ≤ 1 := by
  intro b mem
  simp only [characterBits, List.mem_append, List.mem_cons, List.mem_map, List.not_mem_nil, or_false] at mem
  rcases mem with (at_ | ⟨i, _, rfl⟩) | at_
  · rw [at_]
    exact Bool.toNat_le control
  · exact Bool.toNat_le _
  · omega

theorem characterBits_odd (control : Bool) (v : Byte) : (characterBits control v).sum % 2 = 1 := by
  simp only [characterBits, List.sum_append, List.sum_singleton]
  omega

theorem value_of_bits (v : Byte) :
    BitVec.ofNat 8 ((List.range 8).foldl (fun a i => a + (v.getLsbD i).toNat * 2 ^ i) 0) = v := by
  refine BitVec.eq_of_toNat_eq ?_
  simp only [BitVec.getLsbD, Nat.toNat_testBit, List.range_succ, List.range_zero, List.foldl_append, List.foldl_cons, List.foldl_nil,
    List.nil_append, BitVec.toNat_ofNat]
  have small := v.isLt
  omega

theorem classifyBits_characterBits (control : Bool) (v : Byte) :
    classifyBits (characterBits control v) = if control then .control v else .data v := by
  have value : ∀ i ∈ List.range 8, (characterBits control v).getD (i + 1) 0 = (v.getLsbD i).toNat := by
    intro i mem
    have low : i < 8 := List.mem_range.1 mem
    simp [characterBits, List.getElem?_append_left, low]
  have first : (characterBits control v).getD 0 0 = control.toNat := rfl
  have read : (List.range 8).foldl (fun a i => a + (characterBits control v).getD (i + 1) 0 * 2 ^ i) 0 =
      (List.range 8).foldl (fun a i => a + (v.getLsbD i).toNat * 2 ^ i) 0 :=
    List.foldl_ext _ _ _ fun a i mem => by rw [value i mem]
  rw [classifyBits, if_neg (by rw [characterBits_odd]; decide)]
  simp only [first, read, value_of_bits]
  cases control <;> rfl

theorem classifyBits_turned (control : Bool) (v : Byte) {i : Nat} (inside : i < 10) :
    classifyBits ((characterBits control v).modify i fun b => 1 - b) = .parityError := by
  have length : (characterBits control v).length = 10 := by simp [characterBits]
  have even := sum_modify_parity (characterBits_le control v) (i := i) (by omega)
  have odd := characterBits_odd control v
  exact if_pos (by omega)

end Sys2Proof.Machine

namespace Sys2Proof

open Machine

/-- Settles O48. -/
theorem framesRoundTrip : Obligations.FramesRoundTrip :=
  ⟨⟨judgeFrame_obs, judgeFrame_lock, fun seq _ => judgeFrame_break seq, fun seq _ => judgeFrame_bearing seq, judgeFrame_fail,
    judgeFrame_ident, fun seq _ => judgeFrame_pass seq⟩,
   fun control v => ⟨classifyBits_characterBits control v, fun _ => classifyBits_turned control v⟩⟩

/-- Settles O49: the first check that fails decides; with one byte changed the sum fails where no check before it does. -/
theorem framesChecked : Obligations.FramesChecked := by
  refine ⟨⟨fun before after ending none_ => ?_, fun before v after ending none_ => ?_, ?_, ?_⟩,
    fun kind seq payload i b fits inside changed => ?_⟩
  · have parity := firstPosition_append (fun c mem => isParityErrorChar_eq_false (none_ c mem))
      (rfl : isParityErrorChar .parityError = true) after
    simp only [judgeFrame, parity]
  · have parity : firstPosition isParityErrorChar (before.map .data ++ .control v :: after) = none := by
      refine firstPosition_eq_none fun c mem => ?_
      rcases List.mem_append.1 mem with mem | mem
      · exact data_not_parityError before c mem
      · rcases List.mem_cons.1 mem with rfl | mem
        · rfl
        · exact isParityErrorChar_eq_false (none_ c mem)
    have control := firstPosition_append (data_not_control before) (rfl : isControlChar (.control v) = true) after
    simp only [judgeFrame, parity, control, List.length_map]
  · intro bytes chars length
    have judged : ∀ ending, judgeFrame chars ending = _ := judgeFrame_data bytes
    refine ⟨by rw [judged]; rfl, by rw [judged]; rfl, fun short => ?_, fun enough above => ?_, fun enough most unequal => ?_,
      fun most equal sum => ?_⟩ <;> rw [judged, if_neg (by decide), if_neg (by decide)]
    · exact if_pos short
    · rw [if_neg (by omega)]
      exact if_pos above
    · rw [if_neg (by omega), if_neg (Nat.not_lt.2 most)]
      exact if_pos unequal
    · rw [if_neg (by omega), if_neg (Nat.not_lt.2 most), if_neg (not_not.2 equal)]
      exact if_pos sum
  · intro kind seq payload fits verdict n
    have judged : verdict = _ := (judgeFrame_frameBytes fits).trans (judgeFormat_frameBytes fits)
    refine ⟨fun unknown => ?_, fun wrong => ?_, fun at_ length reason => ?_, fun at_ length reach => ?_⟩
    · simp only [List.mem_cons, List.not_mem_nil, or_false, not_or] at unknown
      obtain ⟨obs, lock, break_, bearing, fail, ident, pass⟩ := unknown
      exact judged.trans <| (if_neg obs).trans <| (if_neg lock).trans <| (if_neg break_).trans <| (if_neg bearing).trans <|
        (if_neg fail).trans <| (if_neg ident).trans (if_neg pass)
    · rw [judged]
      rcases wrong with ⟨rfl, wrong⟩ | ⟨rfl, wrong⟩ | ⟨rfl, wrong⟩ | ⟨rfl, wrong⟩ | ⟨rfl, wrong⟩ | ⟨rfl, wrong⟩ <;> exact if_neg wrong
    · subst at_
      rw [judged]
      refine (if_pos length).trans (if_neg ?_)
      omega
    · subst at_
      rw [judged]
      refine (if_pos length).trans (if_neg ?_)
      omega
  · have sum : byteSum ((frameBytes kind seq payload).set i b) ≠ 0 := by
      rw [← byteSum_frameBytes kind seq payload]
      exact byteSum_set_ne (by rw [frameBytes_length]; exact inside) changed
    rw [judgeFrame_data, if_neg (by decide), if_neg (by decide)]
    split
    · exact ⟨_, _, rfl⟩
    · split
      · exact ⟨_, _, rfl⟩
      · split
        · exact ⟨_, _, rfl⟩
        · exact ⟨_, _, rfl⟩

end Sys2Proof
end

section
/-! PROOFS. The station links: what a port sends, its silence, the end of a send, and the characters received: O44, O45, O46, O47. -/

namespace Sys2Proof.Machine

/-! ## Ports changed twice -/

theorem Device.onPort_onPort (d : Device) (p : Port) (f g : LinkPort → LinkPort) :
    (d.onPort p f).onPort p g = d.onPort p fun l => g (f l) := by
  simp only [Device.onPort, PerPort.get_set_self, PerPort.set_set]

theorem Device.onPort_self {d : Device} {p : Port} {f : LinkPort → LinkPort} (same : f (d.ports.get p) = d.ports.get p) :
    d.onPort p f = d := by
  rw [Device.onPort, same, PerPort.set_get]

/-! ## The sending half (R28, R29, R145, R156) -/

/-- A RELEASE takes the place of the one that waits (R29). -/
theorem LinkPort.placeRelease_of_waiting {l : LinkPort} {before after : List OutFrame} {r : ReleaseReason} (reason : ReleaseReason)
    (waits : l.control = before ++ .release r :: after) (one : l.releases = 1) :
    l.placeRelease reason = { l with control := before ++ .release reason :: after } := by
  have counted : before.countP OutFrame.isRelease + after.countP OutFrame.isRelease = 0 := by
    simp only [LinkPort.releases, waits, List.countP_append, List.countP_cons_of_pos (rfl : OutFrame.isRelease (.release r) = true)] at one
    omega
  have others : ∀ part : List OutFrame, part.countP OutFrame.isRelease = 0 →
      part.map (fun f => if f.isRelease then .release reason else f) = part := by
    intro part none_
    refine (List.map_congr_left fun f mem => if_neg ?_).trans (List.map_id _)
    exact List.countP_eq_zero.1 none_ f mem
  have any : l.control.any OutFrame.isRelease = true := by simp [waits, OutFrame.isRelease]
  rw [LinkPort.placeRelease, if_pos any, waits, List.map_append, List.map_cons, others before (by omega), others after (by omega)]
  rfl

theorem LinkPort.placeRelease_of_none {l : LinkPort} (reason : ReleaseReason) (none_ : ∀ r, OutFrame.release r ∉ l.control) :
    l.placeRelease reason = { l with control := l.control ++ [.release reason] } := by
  have any : ¬ l.control.any OutFrame.isRelease = true := by
    rw [List.any_eq_true]
    rintro ⟨f, mem, release⟩
    cases f with
    | release r => exact none_ r mem
    | _ => cases release
  exact if_neg any

/-- The take of the next frame by an idle sending half of an up port (R156). -/
theorem LinkPort.takeFrame_of_idle {l : LinkPort} (up : l.state ≠ .down) (idle : l.sending = .idle) :
    l.takeFrame =
      match l.nextFrame with
      | some (f, rest) => { rest with sending := .sending ⟨f, l.seqCounter, f.isOrder⟩ 0, seqCounter := l.seqCounter + 1 }
      | none => l := by
  unfold LinkPort.takeFrame
  split
  · next down => exact absurd down up
  · rfl
  · next other _ => exact absurd idle other

theorem LinkPort.takeFrame_of_busy {l : LinkPort} (busy : l.state = .down ∨ l.sending ≠ .idle) : l.takeFrame = l := by
  unfold LinkPort.takeFrame
  split
  · rfl
  · next idle up => exact absurd idle (busy.resolve_left up)
  · rfl

theorem LinkPort.eofGone_of_sending {l : LinkPort} {f : InFlight} {n : Nat} (now : Word) (sending : l.sending = .sending f n) :
    l.eofGone now =
      { l with sending := .awaiting f, answerDeadline := some (timeAfter now Config.answerTime), line := .control eofCode,
               answers := if f.chars.length ≤ n then l.answers else [] } := by
  simp only [LinkPort.eofGone, LinkPort.eofGoing, sending, decide_eq_true_eq]

theorem LinkPort.eofGone_of_not_sending {l : LinkPort} (now : Word) (other : ∀ f n, l.sending ≠ .sending f n) : l.eofGone now = l := by
  unfold LinkPort.eofGone
  split
  · next f n sending => exact absurd sending (other f n)
  · rfl

/-! ## Frames lost (R146, R159) -/

theorem StickyFlags.losing_eq (s : StickyFlags) (f : OutFrame) :
    s.losing f = { s with releaseLost := s.releaseLost || f.isRelease, passLost := s.passLost || f.isPass } := by
  cases f <;> simp [StickyFlags.losing, OutFrame.isRelease, OutFrame.isPass]

theorem StickyFlags.losing_all (s : StickyFlags) (l : List OutFrame) :
    l.foldl StickyFlags.losing s =
      { s with releaseLost := s.releaseLost || l.any OutFrame.isRelease, passLost := s.passLost || l.any OutFrame.isPass } := by
  induction l generalizing s with
  | nil => simp
  | cons f l ih => rw [List.foldl_cons, ih, StickyFlags.losing_eq]; simp [Bool.or_assoc]

/-! ## Link down (R108, R146) -/

/-- A pending quiet setting of an ABSENT station takes effect, and lets it join nothing (R108, R115). -/
theorem Device.quietBoundary_of_absent {d : Device} {p : Port} (absent : d.stationState p = .absent)
    (slot : (d.ports.get p).slot = none) :
    d.quietBoundary p = d.onStation p fun s => { s with quiet := s.quietPending.getD s.quiet, quietPending := none } := by
  cases pending : (d.stations.get p).quietPending with
  | none =>
    have same : ({ d.stations.get p with quietPending := none } : Station) = d.stations.get p := by rw [← pending]
    have kept : d.onStation p (fun s => { s with quiet := s.quietPending.getD s.quiet, quietPending := none }) =
        { d with stations := d.stations.set p { d.stations.get p with quietPending := none } } := by
      rw [Device.onStation, pending]
      rfl
    rw [Device.quietBoundary, pending, kept, same, PerPort.set_get]
  | some v =>
    rw [Device.quietBoundary, pending, Device.onStation, pending]
    cases v with
    | true =>
      have empty : ({ d.ports.get p with slot := none } : LinkPort) = d.ports.get p := by rw [← slot]
      exact Device.onPort_self (d := d.onStation p fun s => { s with quiet := true, quietPending := none })
        (f := fun l => { l with slot := none }) empty
    | false =>
      refine if_neg fun joins => ?_
      obtain ⟨-, -, -, eligible⟩ := joins
      have standby := ((Device.eligible_iff _ p).1 eligible).1
      simp only [Device.stationState, Device.onStation, PerPort.get_set_self] at standby absent
      rw [absent] at standby
      cases standby

theorem Device.searcherLeft_eq (d : Device) :
    d.searcherLeft =
      if d.track.state = .acquire ∧ d.anySearching = false then d.enterLost
      else if d.track.state = .search then d.endCheck else d := by
  unfold Device.searcherLeft
  cases state : d.track.state <;> cases d.anySearching <;> simp

theorem Device.ownerBreak_eq (d : Device) :
    d.ownerBreak =
      if d.track.state = .tracking then d.goBlind.changeState .coast false
      else if d.track.state = .handoff ∧ d.track.blind = false then d.goBlind else d := by
  unfold Device.ownerBreak
  cases state : d.track.state <;> cases d.track.blind <;> simp

/-- A port enters DOWN and its station goes ABSENT (R108, R146). -/
theorem Device.silenceExpires_of_up {d : Device} {p : Port} (up : (d.ports.get p).state ≠ .down) :
    d.silenceExpires p = (d.onPort p LinkPort.enterDown).stationLinkDown p := by
  unfold Device.silenceExpires
  split
  · next down => exact absurd down up
  · rfl

theorem Device.silenceExpires_of_down {d : Device} {p : Port} (down : (d.ports.get p).state = .down) :
    d.silenceExpires p = d.onPort p fun l => { l with training := 0 } := by
  unfold Device.silenceExpires
  split
  · rfl
  · next up => exact absurd down up

theorem LinkPort.enterDown_eq (l : LinkPort) :
    l.enterDown =
      { l with
        state := .down, training := 0, inFrame := none, inRefused := false, answers := [],
        idreqPending := false, control := [], slot := none, sending := .idle, answerDeadline := none,
        flags := { l.flags with
          releaseLost := l.flags.releaseLost ||
            (l.control ++ (match l.sending with | .idle => [] | .sending f _ => [f.frame] | .awaiting f => [f.frame])).any
              OutFrame.isRelease,
          passLost := l.flags.passLost ||
            (l.control ++ (match l.sending with | .idle => [] | .sending f _ => [f.frame] | .awaiting f => [f.frame])).any
              OutFrame.isPass },
        counters := { l.counters with
          undelivered := if l.sending = .idle then l.counters.undelivered else countUp l.counters.undelivered } } := by
  unfold LinkPort.enterDown
  simp only [StickyFlags.losing_all]
  cases sending : l.sending <;> simp [LinkPort.inFlight, sending]

/-! ## The end of a send (R115, R157, R158) -/

/-- The answer of an ACK or NAK character on an up port reaches the sending half in every state of the receiving half (R148, R153). -/
theorem Device.receive_answer {d : Device} {p : Port} (up : (d.ports.get p).state ≠ .down) (a : LinkAnswer) :
    d.receive p a.char = (d.onPort p fun l => { l with silence := some (timeAfter d.tb Config.silenceTime) }).takeAnswer p a := by
  unfold Device.receive
  cases state : (d.ports.get p).state with
  | down => exact absurd state up
  | accepting => cases (d.ports.get p).inFrame <;> cases a <;> rfl
  | refusing => cases a <;> rfl

theorem LinkPort.awaitingFrame_of_awaiting {l : LinkPort} {f : InFlight} (h : l.sending = .awaiting f) : l.awaitingFrame = some f := by
  rw [LinkPort.awaitingFrame, h]

theorem LinkPort.awaitingFrame_eq_none {l : LinkPort} (h : ∀ f, l.sending ≠ .awaiting f) : l.awaitingFrame = none := by
  unfold LinkPort.awaitingFrame
  split
  · next f awaiting => exact absurd awaiting (h f)
  · rfl

/-- The report of an undelivered order still current (R34, R51, R72). -/
theorem Device.orderUndelivered_eq (d : Device) (p : Port) (f : InFlight) :
    d.orderUndelivered p f =
      match f.current, f.frame with
      | true, .take _ => if d.track.state = .handoff ∧ d.track.candidate = some p then d.failTake p .undelivered else d
      | true, .search _ => d.takeFail p
      | _, _ => d := by
  unfold Device.orderUndelivered
  cases f.current <;> cases f.frame <;> rfl

/-! ## The receiving half (R146, R147, R148, R153) -/

/-- A character heard on a port: the silence measure restarts (R146). -/
def Device.heard (d : Device) (p : Port) : Device :=
  d.onPort p fun l => { l with silence := some (timeAfter d.tb Config.silenceTime) }

theorem Device.heard_onPort (d : Device) (p : Port) (f : LinkPort → LinkPort) :
    (d.heard p).onPort p f = { d with ports := d.ports.set p (f { d.ports.get p with silence := some (d.tb + 2000#32) }) } :=
  Device.onPort_onPort d p _ f

theorem Device.receive_of_down {d : Device} {p : Port} (down : (d.ports.get p).state = .down) (c : LineChar) :
    d.receive p c = (d.heard p).trainOn p c := by
  unfold Device.receive
  rw [down]
  rfl

theorem Device.receive_of_refusing {d : Device} {p : Port} (refusing : (d.ports.get p).state = .refusing) (c : LineChar) :
    d.receive p c = (d.heard p).refuseOn p c := by
  unfold Device.receive
  rw [refusing]
  rfl

theorem Device.receive_between {d : Device} {p : Port} (accepting : (d.ports.get p).state = .accepting)
    (between : (d.ports.get p).inFrame = none) (c : LineChar) : d.receive p c = (d.heard p).betweenOn p c := by
  unfold Device.receive
  rw [accepting, between]
  rfl

theorem Device.receive_inFrame {d : Device} {p : Port} {chars : List LineChar} (accepting : (d.ports.get p).state = .accepting)
    (collecting : (d.ports.get p).inFrame = some chars) (c : LineChar) : d.receive p c = (d.heard p).inFrameOn p chars c := by
  unfold Device.receive
  rw [accepting, collecting]
  rfl

/-- A character that is none of the six controls (R144). -/
theorem charClass_other {c : LineChar} (other : otherCharacter c = true) : charClass c = .other := by
  cases c with
  | data b => rfl
  | parityError => rfl
  | control v =>
    simp only [otherCharacter, isControlCode, List.contains_cons, List.contains_nil, Bool.not_eq_true', Bool.or_eq_false_iff,
      beq_eq_false_iff_ne, ne_eq] at other
    obtain ⟨sof, eof, ack, nak, idle, brk, -⟩ := other
    simp only [charClass, if_neg sof, if_neg eof, if_neg ack, if_neg nak, if_neg idle, if_neg brk]

/-- In DOWN only a good IDLE trains (R147). -/
theorem Device.receive_of_down_other {d : Device} {p : Port} (down : (d.ports.get p).state = .down) {c : LineChar}
    (other : charClass c ≠ .idle) :
    d.receive p c =
      { d with ports := d.ports.set p { d.ports.get p with silence := some (d.tb + 2000#32), training := 0 } } := by
  rw [Device.receive_of_down down, Device.trainOn, if_neg other, Device.heard_onPort]

/-- A joined acquire search after an event before which the station was not eligible (R32). -/
theorem Device.joinAcquire_of_not {d : Device} {p : Port} (was : Bool) (not_ : was = false) :
    d.joinAcquire p was =
      if d.track.state = .acquire ∧ d.track.acquireMask.get p = true ∧ d.eligible p = true then d.sendSearch p none else d := by
  simp [Device.joinAcquire, not_]

theorem Device.not_eligible_of_state {d : Device} {p : Port} (state : (d.ports.get p).state ≠ .accepting) : d.eligible p = false := by
  rw [Bool.eq_false_iff, Ne, Device.eligible_iff]
  exact fun eligible => state eligible.2.2.2

end Sys2Proof.Machine

namespace Sys2Proof

open Machine

/-- Settles O44. -/
theorem controlQueueKeptAndSent : Obligations.ControlQueueKeptAndSent := by
  refine ⟨fun l reason => ⟨LinkPort.placeRelease_of_none reason, fun before after r waits one =>
    LinkPort.placeRelease_of_waiting reason waits one, ?_, ?_, rfl⟩, ?_⟩
  · refine congrArg (l.control.filter ·) (funext fun f => ?_)
    cases f <;> rfl
  · cases sending : l.sending <;> simp [LinkPort.endOrder, sending, InFlight.notCurrent]
  · intro d q p l took
    refine ⟨fun up idle => congrArg (fun e => Host.Outcome.next (State.mk e q)) ?_,
      fun busy => congrArg (fun e => Host.Outcome.next (State.mk e q)) (Device.onPort_self (LinkPort.takeFrame_of_busy busy)),
      fun f n sending => congrArg (fun e => Host.Outcome.next (State.mk e q)) ?_,
      fun other => congrArg (fun e => Host.Outcome.next (State.mk e q)) (Device.onPort_self (LinkPort.eofGone_of_not_sending _ other)),
      ?_⟩
    · show d.onPort p LinkPort.takeFrame = _
      rw [Device.onPort, LinkPort.takeFrame_of_idle up idle]
      by_cases pending : l.idreqPending = true
      · have next_ : l.nextFrame = some (.idreq, { l with idreqPending := false }) := if_pos pending
        rw [next_, if_pos pending]
        rfl
      · rw [if_neg pending]
        cases control : l.control with
        | cons f rest =>
          have next_ : l.nextFrame = some (f, { l with control := rest }) := by
            rw [LinkPort.nextFrame, if_neg pending, control]
          rw [next_]
          cases f <;> rfl
        | nil =>
          cases slot : l.slot with
          | some s =>
            obtain ⟨tag, v⟩ := s
            have next_ : l.nextFrame = some (.point tag v, { l with control := [], slot := none }) := by
              rw [LinkPort.nextFrame, if_neg pending, control, slot]
            rw [next_]
            rfl
          | none =>
            have next_ : l.nextFrame = none := by rw [LinkPort.nextFrame, if_neg pending, control, slot]
            rw [next_]
            exact Device.onPort_self (f := id) rfl
    · show d.onPort p _ = _
      rw [Device.onPort, LinkPort.eofGone_of_sending _ sending]
      rfl
    · intro f bytes4 point body
      have payload : body = (f.frame.kindCode, f.frame.payload) := by
        cases frame : f.frame with
        | search target => cases target <;> simp only [body, frame] <;> rfl
        | _ =>
          simp only [body, frame]
          rfl
      rw [payload]
      exact ⟨_, byteSum_frameBytes f.frame.kindCode f.seq f.frame.payload, rfl⟩

/-- Settles O45. -/
theorem silenceTakesPortDown : Obligations.SilenceTakesPortDown := by
  refine ⟨?_, fun d p before => ?_, fun d => d.ownerBreak_eq⟩
  · intro d q p t at_ later l s gone
    have expires : d.silenceTimeout p = d.silenceExpires p := if_pos (expired_eq_true at_ later)
    refine ⟨fun down => congrArg (fun e => Host.Outcome.next (State.mk e q)) ?_,
      fun up => congrArg (fun e => Host.Outcome.next (State.mk e q)) ?_⟩
    · show d.silenceTimeout p = _
      exact expires.trans (Device.silenceExpires_of_down down)
    · show d.silenceTimeout p = _
      rw [expires, Device.silenceExpires_of_up up, Device.stationLinkDown, Device.quietBoundary_of_absent
        (by simp [Device.forgetBearing, Device.onStation, Device.onSmu, Device.onPort, Device.stationState])
        (by simp [Device.forgetBearing, Device.onStation, Device.onSmu, Device.onPort, LinkPort.enterDown])]
      simp only [Device.forgetBearing, Device.onStation, Device.onSmu, Device.onPort, Device.stationState, Device.raise,
        PerPort.get_set_self, PerPort.set_set, LinkPort.enterDown_eq]
      rfl
  · intro ended
    have down : d.reportLinkDown p before =
        if d.track.owner = some p then ended.ownerBreak
        else if d.track.state = .handoff ∧ d.track.candidate = some p then ended.failTake p .link
        else if before = .searching then ended.searcherLeft
        else ended.leavePending p := rfl
    rw [down, Device.searcherLeft_eq]
    rfl

/-- Settles O46. -/
theorem sendsEnd : Obligations.SendsEnd := by
  intro d q p up l heard boundary at_ sent lost reported
  have bounded : ∀ e : Device, e.stations = d.stations → e.quietBoundary p = boundary e := by
    intro e same
    simp only [Device.quietBoundary, boundary, same]
    cases (d.stations.get p).quietPending <;> rfl
  have delivered : ∀ silence, ({ d with ports := d.ports.set p { l with silence := silence } } : Device).sendDelivered p = sent silence := by
    intro silence
    simp only [Device.sendDelivered, Device.onPort, PerPort.get_set_self, PerPort.set_set]
    exact bounded _ rfl
  have undelivered : ∀ silence f,
      ({ d with ports := d.ports.set p { l with silence := silence } } : Device).sendUndelivered p f = reported (lost silence f.frame) f := by
    intro silence f
    have same : (at_ { l with
        silence := silence, sending := .idle, answerDeadline := none, flags := l.flags.losing f.frame,
        counters := { l.counters with undelivered := countUp l.counters.undelivered } }).quietBoundary p = lost silence f.frame := by
      rw [StickyFlags.losing_eq]
      exact bounded _ rfl
    simp only [Device.sendUndelivered, Device.onPort, PerPort.get_set_self, PerPort.set_set]
    refine (congrArg (·.orderUndelivered p f) same).trans ?_
    exact Device.orderUndelivered_eq _ p f
  have here : d.ports.set p { l with silence := l.silence } = d.ports := PerPort.set_get d.ports p
  refine ⟨fun f awaiting => ⟨?_, ?_, fun t due later => ?_⟩, fun none_ => ?_⟩
  · refine congrArg (fun e => Host.Outcome.next (State.mk e q)) ((Device.receive_answer up .ack).trans ?_)
    rw [Device.takeAnswer, LinkPort.awaitingFrame_of_awaiting (f := f) (by rw [Device.onPort_ports, PerPort.get_set_self]; exact awaiting)]
    exact delivered _
  · refine congrArg (fun e => Host.Outcome.next (State.mk e q)) ((Device.receive_answer up .nak).trans ?_)
    rw [Device.takeAnswer, LinkPort.awaitingFrame_of_awaiting (f := f) (by rw [Device.onPort_ports, PerPort.get_set_self]; exact awaiting)]
    exact undelivered _ f
  · refine congrArg (fun e => Host.Outcome.next (State.mk e q)) ((if_pos (expired_eq_true due later)).trans ?_)
    rw [Device.answerExpires, LinkPort.awaitingFrame_of_awaiting awaiting]
    refine Eq.trans ?_ (undelivered l.silence f)
    rw [here]
  · intro stray
    have counted : ∀ a, d.receive p (LinkAnswer.char a) = stray := by
      intro a
      rw [Device.receive_answer up, Device.takeAnswer, LinkPort.awaitingFrame_eq_none
        (by rw [Device.onPort_ports, PerPort.get_set_self]; exact none_)]
      exact Device.onPort_onPort d p _ _
    exact ⟨congrArg (fun e => Host.Outcome.next (State.mk e q)) (counted .ack),
      congrArg (fun e => Host.Outcome.next (State.mk e q)) (counted .nak)⟩

/-- Settles O47. -/
theorem receivingHalfTakesCharacters : Obligations.ReceivingHalfTakesCharacters := by
  refine ⟨?_, ?_⟩
  · intro d q p down l at_
    have train : ∀ c, d.receive p c = (d.heard p).trainOn p c := Device.receive_of_down down
    have idle : ∀ more : Device, (if l.training + 1 < 8 then (d.heard p).onPort p fun l => { l with training := l.training + 1 }
        else (d.heard p).linkUp p) = more → exec (.idleCharacter p) ⟨d, q⟩ = .next ⟨more, q⟩ := by
      intro more same
      refine congrArg (fun e => Host.Outcome.next (State.mk e q)) ((train _).trans (Eq.trans ?_ same))
      rw [Device.trainOn, if_pos (by decide), Device.heard, Device.onPort_ports, PerPort.get_set_self]
      rfl
    refine ⟨fun low => idle _ ?_, ?_, fun i mem => ?_, fun c other => ?_⟩
    · rw [if_pos (by omega)]
      exact Device.heard_onPort d p _
    · intro full up
      refine idle _ ?_
      rw [if_neg (by omega)]
      refine Eq.trans ?_ (Device.joinAcquire_of_not (d := up) (p := p) false rfl)
      refine congrArg (Device.joinAcquire · p false) ?_
      rw [Device.heard_onPort]
      rfl
    · simp only [List.mem_cons, List.not_mem_nil, or_false] at mem
      rcases mem with rfl | rfl | rfl | rfl | rfl <;>
        exact congrArg (fun e => Host.Outcome.next (State.mk e q)) (Device.receive_of_down_other down (by decide))
    · exact congrArg (fun e => Host.Outcome.next (State.mk e q))
        (Device.receive_of_down_other down (by rw [charClass_other other]; decide))
  · intro d q p l at_
    refine ⟨fun accepting between => ?_, fun chars collecting accepting => ?_, fun refusing => ?_⟩
    · have receive : ∀ c, d.receive p c = (d.heard p).betweenOn p c := Device.receive_between accepting between
      refine ⟨congrArg (fun e => Host.Outcome.next (State.mk e q)) ((receive _).trans
        (Device.heard_onPort d p fun l => { l with inFrame := some [] })),
        fun i mem => ?_, fun c other => congrArg (fun e => Host.Outcome.next (State.mk e q)) ((receive c).trans ?_)⟩
      · simp only [List.mem_cons, List.not_mem_nil, or_false] at mem
        rcases mem with rfl | rfl | rfl <;> exact congrArg (fun e => Host.Outcome.next (State.mk e q)) (receive _)
      · rw [Device.betweenOn, charClass_other other]
        rfl
    · have receive : ∀ c, d.receive p c = (d.heard p).inFrameOn p chars c := Device.receive_inFrame accepting collecting
      refine ⟨congrArg (fun e => Host.Outcome.next (State.mk e q)) ((receive _).trans
        (Device.heard_onPort d p fun l => { l with inFrame := none })),
        congrArg (fun e => Host.Outcome.next (State.mk e q)) (receive _),
        congrArg (fun e => Host.Outcome.next (State.mk e q)) (receive _), ?_,
        fun c other => congrArg (fun e => Host.Outcome.next (State.mk e q)) ((receive c).trans ?_)⟩
      · exact congrArg (fun e => Host.Outcome.next (State.mk e q)) (receive _)
      · rw [Device.inFrameOn, charClass_other other]
        simp only [Device.collect]
        by_cases few : (dataBytes (chars ++ [c])).length < 29
        · rw [if_neg (by omega), if_pos few]
          exact Device.heard_onPort d p _
        · rw [if_pos (by omega), if_neg few]
          rfl
    · have receive : ∀ c, d.receive p c = (d.heard p).refuseOn p c := Device.receive_of_refusing refusing
      refine ⟨congrArg (fun e => Host.Outcome.next (State.mk e q)) ((receive _).trans
        (Device.heard_onPort d p fun l => { l.nak with inRefused := true })),
        congrArg (fun e => Host.Outcome.next (State.mk e q)) ((receive _).trans
        (Device.heard_onPort d p fun l => { l with inRefused := false })),
        congrArg (fun e => Host.Outcome.next (State.mk e q)) (receive _),
        fun c other => congrArg (fun e => Host.Outcome.next (State.mk e q)) ((receive c).trans ?_), ?_⟩
      · rw [Device.refuseOn, charClass_other other]
        rfl
      · intro back
        refine congrArg (fun e => Host.Outcome.next (State.mk e q)) ((receive _).trans ?_)
        refine Eq.trans ?_ (Device.joinAcquire_of_not (d := back) (p := p) false rfl)
        refine congrArg₂ (fun e was => Device.joinAcquire e p was) (Device.heard_onPort d p _) (Device.not_eligible_of_state ?_)
        rw [Device.heard, Device.onPort_ports, PerPort.get_set_self]
        exact fun accepting => absurd (refusing.symm.trans accepting) (by decide)

end Sys2Proof
end

section
/-! PROOFS. Whole frames received by a station link: O50, O51. -/

namespace Sys2Proof.Machine

/-! ## A frame collected character by character (R148) -/

/-- A port in a frame, with the characters collected so far (R148). -/
def Device.collecting (d : Device) (p : Port) (chars : List LineChar) : Device :=
  d.onPort p fun l => { l with silence := some (timeAfter d.tb Config.silenceTime), inFrame := some chars }

theorem Device.collecting_onPort (d : Device) (p : Port) (chars : List LineChar) (f : LinkPort → LinkPort) :
    (d.collecting p chars).onPort p f =
      { d with
        ports :=
          d.ports.set p (f { d.ports.get p with silence := some (d.tb + 2000#32), inFrame := some chars }) } :=
  Device.onPort_onPort d p _ f

theorem Device.receiveAll_append (d : Device) (p : Port) (a b : List LineChar) :
    d.receiveAll p (a ++ b) = (d.receiveAll p a).receiveAll p b := List.foldl_append

/-- A SOF between frames starts a frame (R148). -/
theorem Device.receive_sof {d : Device} {p : Port} (accepting : (d.ports.get p).state = .accepting)
    (between : (d.ports.get p).inFrame = none) : d.receive p (.control sofCode) = d.collecting p [] :=
  (Device.receive_between accepting between _).trans (Device.heard_onPort d p fun l => { l with inFrame := some [] })

theorem Device.receive_collecting {d : Device} {p : Port} (accepting : (d.ports.get p).state = .accepting) (chars : List LineChar)
    (c : LineChar) : (d.collecting p chars).receive p c = (d.collecting p chars).inFrameOn p chars c := by
  have port : (d.collecting p chars).ports.get p =
      { d.ports.get p with silence := some (timeAfter d.tb Config.silenceTime), inFrame := some chars } :=
    PerPort.get_set_self _ _ _
  have heard : (d.collecting p chars).heard p = d.collecting p chars :=
    Device.onPort_self (by rw [port]; rfl)
  rw [Device.receive_inFrame (chars := chars) (by rw [port]; exact accepting) (by rw [port]), heard]

/-- A run of other characters, at most 28 of them data, is collected (R148). -/
theorem Device.receiveAll_collecting {d : Device} {p : Port} (accepting : (d.ports.get p).state = .accepting)
    (more : List LineChar) : ∀ chars, (∀ c ∈ more, otherCharacter c = true) → (dataBytes (chars ++ more)).length ≤ 28 →
      (d.collecting p chars).receiveAll p more = d.collecting p (chars ++ more) := by
  induction more with
  | nil =>
    intro chars _ _
    rw [List.append_nil]
    rfl
  | cons c more ih =>
    intro chars other few
    have reached : (dataBytes (chars ++ [c])).length ≤ (dataBytes (chars ++ c :: more)).length := by
      rw [List.append_cons chars c more]
      simp only [dataBytes, List.filterMap_append, List.length_append]
      omega
    have taken : (d.collecting p chars).receive p c = d.collecting p (chars ++ [c]) := by
      rw [Device.receive_collecting accepting, Device.inFrameOn, charClass_other (other c List.mem_cons_self)]
      refine (if_neg (by omega)).trans ?_
      exact Device.onPort_onPort d p _ _
    have rest := ih (chars ++ [c]) (fun c mem => other c (List.mem_cons_of_mem _ mem)) (by rwa [List.append_assoc])
    rw [List.append_assoc] at rest
    exact (congrArg (·.receiveAll p more) taken).trans rest

/-- A SOF and a run of other characters, between frames. -/
theorem Device.receiveAll_open {d : Device} {p : Port} {chars : List LineChar} (accepting : (d.ports.get p).state = .accepting)
    (between : (d.ports.get p).inFrame = none) (other : ∀ c ∈ chars, otherCharacter c = true) (few : (dataBytes chars).length ≤ 28) :
    d.receiveAll p (.control sofCode :: chars) = d.collecting p chars :=
  (congrArg (·.receiveAll p chars) (Device.receive_sof accepting between)).trans (Device.receiveAll_collecting accepting chars [] other few)

theorem data_otherCharacter (bytes : List Byte) : ∀ c ∈ bytes.map LineChar.data, otherCharacter c = true := by
  intro c mem
  obtain ⟨b, _, rfl⟩ := List.mem_map.1 mem
  rfl

/-- A whole frame between frames is judged at its EOF (R148). -/
theorem Device.receiveAll_frame {d : Device} {p : Port} (accepting : (d.ports.get p).state = .accepting)
    (between : (d.ports.get p).inFrame = none) {kind seq : Byte} {payload : List Byte} (fits : payload.length ≤ 24) :
    d.receiveAll p (frameChars kind seq payload) =
      (d.collecting p ((frameBytes kind seq payload).map .data)).endFrame p ((frameBytes kind seq payload).map .data) .eof := by
  have few : (dataBytes ((frameBytes kind seq payload).map .data)).length ≤ 28 := by
    rw [dataBytes_map_data, frameBytes_length]
    omega
  rw [frameChars, Device.receiveAll_append, Device.receiveAll_open accepting between (data_otherCharacter _) few]
  exact Device.receive_collecting accepting _ _

/-! ## Good frames (R152, R155) -/

@[simp] theorem obsPayload_length (r : ObsReport) : (obsPayload r).length = 20 := rfl

@[simp] theorem breakPayload_length (r : BreakReport) : (breakPayload r).length = 8 := rfl

@[simp] theorem bearingPayload_length (r : BearingReport) : (bearingPayload r).length = 6 := rfl

@[simp] theorem identityPayload_length (i : Identity) : (identityPayload i).length = 12 := rfl

/-- The port of a good frame taken between frames. -/
def LinkPort.taking (l : LinkPort) (silence : Option Word) (f : GoodFrame) : LinkPort :=
  { l with
    silence := silence, answers := l.answers ++ [.ack], views := l.views.taking f,
    counters := { l.counters with framesIn := countUp l.counters.framesIn } }

theorem LinkPort.takeGood_eq {l : LinkPort} (between : l.inFrame = none) (silence : Option Word) (chars : List LineChar) (f : GoodFrame) :
    ({ l with silence := silence, inFrame := some chars } : LinkPort).takeGood f = l.taking silence f := by
  simp only [LinkPort.takeGood, LinkPort.answer, LinkPort.count, LinkPort.taking, between]

/-- A good frame between frames is taken by its port and delivered (R152). -/
theorem Device.receiveAll_good {d : Device} {p : Port} (accepting : (d.ports.get p).state = .accepting)
    (between : (d.ports.get p).inFrame = none) {kind seq : Byte} {payload : List Byte} (fits : payload.length ≤ 24) {f : GoodFrame}
    (good : judgeFrame ((frameBytes kind seq payload).map .data) .eof = .good f) :
    d.receiveAll p (frameChars kind seq payload) =
      ({ d with ports := d.ports.set p ((d.ports.get p).taking (some (d.tb + 2000#32)) f) } : Device).deliver p f := by
  rw [Device.receiveAll_frame accepting between fits, Device.endFrame, good]
  refine congrArg (·.deliver p f) ((Device.collecting_onPort d p _ _).trans ?_)
  rw [LinkPort.takeGood_eq between]

/-- An observation delivered (R5, R82, R109, R130). -/
theorem Device.deliverObservation_eq (d : Device) (p : Port) (kind : ReportKind) (seq : Byte) (r : ObsReport) :
    d.deliverObservation p kind seq r =
      let loaded := (d.xfu.records.get p).loaded
      let waiting := d.xfu.ingest.get p
      let s := d.stations.get p
      let full := decide (d.xfu.outstanding.get p ≤ waiting.length)
      { d with
        xfu := if loaded then
            { d.xfu with ingest :=
                d.xfu.ingest.set p ((if full then waiting.tail else waiting) ++ [ingestEntry d.tb kind seq r]) }
          else d.xfu
        stations := d.stations.set p { s with
          counters :=
            if loaded then
              { s.counters with
                obsTaken := countUp s.counters.obsTaken
                superseded := if full then countUp s.counters.superseded else s.counters.superseded }
            else { s.counters with noTransformDrops := countUp s.counters.noTransformDrops } }
        smu := { d.smu with learnQueue := d.smu.learnQueue ++ [⟨.link p, p, r.az, r.el, .seen⟩] } } := by
  unfold Device.deliverObservation
  by_cases loaded : (d.xfu.records.get p).loaded = true
  · by_cases full : d.xfu.outstanding.get p ≤ (d.xfu.ingest.get p).length <;>
      simp [Device.hasTransform, loaded, Device.joinIngest, full, Device.sendLearning, Device.onStationCounters, Device.onStation,
        Device.onXfu, Device.onSmu]
  · simp [Device.hasTransform, loaded, Device.sendLearning, Device.onStationCounters, Device.onStation, Device.onSmu]

/-- The BREAK of a station (R30, R82). -/
theorem Device.deliverBreak_eq (d : Device) (p : Port) (r : BreakReport) :
    d.deliverBreak p r =
      ({ d with smu := { d.smu with learnQueue :=
          if r.reason = 1 then d.smu.learnQueue ++ [⟨.link p, p, r.az, r.el, .lost⟩] else d.smu.learnQueue } } : Device).takeBreak p := by
  unfold Device.deliverBreak
  split <;> rfl

/-- The FAIL of a station (R30, R34, R49, R72). -/
theorem Device.takeFail_eq (d : Device) (p : Port) :
    d.takeFail p =
      if d.track.owner = some p then d
      else if d.track.state = .handoff ∧ d.track.candidate = some p then (d.learnFailedTake p).failTake p .failed
      else if d.stationState p = .searching then
        ({ d with
            stations := d.stations.set p { d.stations.get p with state := .standby }
            ports := d.ports.set p (d.ports.get p).endOrder
            track := { d.track with currentOrder := d.track.currentOrder.set p none } } : Device).searcherLeft
      else d := by
  unfold Device.takeFail
  by_cases searching : d.stationState p = .searching
  · have standing : d.standDown p =
        { d with
          stations := d.stations.set p { d.stations.get p with state := .standby }
          ports := d.ports.set p (d.ports.get p).endOrder
          track := { d.track with currentOrder := d.track.currentOrder.set p none } } := by
      rw [Device.standDown, searching]
      rfl
    rw [standing]
  · rw [if_neg searching, if_neg searching]

/-! ## Frames refused (R149, R150, R151) -/

/-- A verdict that fails no check, or the parity check, or one of the other six of R149. -/
def Verdict.Judged (v : Verdict) : Prop := ∀ cause position, v = .failed cause position → cause = .parity ∨ cause = .check

theorem Verdict.Judged.ite {c : Prop} [Decidable c] {a b : Verdict} (yes : a.Judged) (no : b.Judged) :
    (if c then a else b).Judged := by
  split
  · exact yes
  · exact no

theorem Verdict.Judged.good (f : GoodFrame) : (Verdict.good f).Judged := nofun

theorem Verdict.Judged.badFormat (position : Nat) : (Verdict.badFormat position).Judged := nofun

theorem Verdict.Judged.check (position : Nat) : (Verdict.failed .check position).Judged :=
  fun _ _ same => .inr (Verdict.failed.inj same).1.symm

/-- The format checks fail no check of R149 (R151). -/
theorem judgeFormat_judged (bytes : List Byte) : (judgeFormat bytes).Judged :=
  .ite (.ite (.good _) (.badFormat _)) <|
  .ite (.ite (.good _) (.badFormat _)) <|
  .ite (.ite (.ite (.good _) (.badFormat _)) (.badFormat _)) <|
  .ite (.ite (.ite (.good _) (.badFormat _)) (.badFormat _)) <|
  .ite (.ite (.good _) (.badFormat _)) <|
  .ite (.ite (.good _) (.badFormat _)) <|
  .ite (.ite (.good _) (.badFormat _)) (.badFormat _)

theorem judgeFrame_judged (chars : List LineChar) (ending : FrameEnd) : (judgeFrame chars ending).Judged := by
  unfold judgeFrame
  split
  · exact fun _ _ same => .inl (Verdict.failed.inj same).1.symm
  · split
    · exact .check _
    · exact .ite (.check _) <| .ite (.check _) <| .ite (.check _) <| .ite (.check _) <| .ite (.check _) <| .ite (.check _)
        (judgeFormat_judged _)

/-- The port after a failed check, between frames again and REFUSING (R149, R150). -/
theorem Device.endFrame_failed {d : Device} {p : Port} {chars : List LineChar} (open_ : List LineChar) {ending : FrameEnd}
    {cause : CaptureCause} {position : Nat} (failed : judgeFrame chars ending = .failed cause position) :
    (d.collecting p open_).endFrame p chars ending =
      let l := d.ports.get p
      { d with
        ports := d.ports.set p { l with
          state := .refusing
          silence := some (d.tb + 2000#32)
          inFrame := none
          inRefused := false
          answers := l.answers ++ [.nak]
          flags := { l.flags with parity := l.flags.parity || decide (cause = .parity)
                                  check := l.flags.check || decide (cause = .check) }
          capture := ⟨cause, position, capturedKind chars, d.tb⟩
          counters := { l.counters with naksSent := countUp l.counters.naksSent } }
        notices := { d.notices with flags := d.notices.flags ||| 1#14 <<< p.val } } := by
  have flags : ∀ f : StickyFlags, f.set cause =
      { f with parity := f.parity || decide (cause = .parity), check := f.check || decide (cause = .check) } := by
    intro f
    rcases judgeFrame_judged _ _ _ _ failed with rfl | rfl <;> simp [StickyFlags.set]
  simp only [Device.endFrame, failed, LinkPort.refuseFrame, flags]
  exact congrArg (Device.raise · (.portFault p)) (Device.collecting_onPort d p _ _)

theorem capturedKind_append {chars : List LineChar} {c : LineChar} (control : charByte c = none) :
    capturedKind (chars ++ [c]) = capturedKind chars := by
  cases chars with
  | nil => exact control
  | cons a chars => rfl

/-- A SOF and the characters of a frame that fails a check, up to the one that ends it (R149). -/
theorem Device.receiveAll_checkFailure {d : Device} {p : Port} (accepting : (d.ports.get p).state = .accepting)
    (between : (d.ports.get p).inFrame = none) {chars : List LineChar} (failure : isCheckFailure chars = true) :
    ∃ init c ending cause position, chars = init ++ [c] ∧ frameVerdict chars = .failed cause position ∧
      ((c = .control eofCode ∧ ending = .eof ∧ judgeFrame init ending = .failed cause position ∧
          d.receiveAll p (.control sofCode :: chars) = (d.collecting p init).endFrame p init ending) ∨
        (c = .control sofCode ∧ ending = .sof ∧ judgeFrame init ending = .failed cause position ∧
          d.receiveAll p (.control sofCode :: chars) = ((d.collecting p init).endFrame p init ending).refuseOn p (.control sofCode)) ∨
        (c ≠ .control sofCode ∧ ending = .overlong ∧ judgeFrame chars ending = .failed cause position ∧
          d.receiveAll p (.control sofCode :: chars) = (d.collecting p init).endFrame p chars ending)) := by
  rcases List.eq_nil_or_concat chars with rfl | ⟨init, c, rfl⟩
  · cases failure
  rw [List.concat_eq_append] at failure ⊢
  have last : (init ++ [c]).getLast? = some c := List.getLast?_concat
  have ends : (init ++ [c]).dropLast = init := List.dropLast_concat
  simp only [isCheckFailure, last, ends, Bool.and_eq_true] at failure
  obtain ⟨run, fails⟩ := failure
  have verdict : ∃ cause position, frameVerdict (init ++ [c]) = .failed cause position := by
    cases h : frameVerdict (init ++ [c]) with
    | failed cause position => exact ⟨cause, position, rfl⟩
    | badFormat position => rw [h] at fails; cases fails
    | good f => rw [h] at fails; cases fails
  obtain ⟨cause, position, verdict⟩ := verdict
  have judged : frameVerdict (init ++ [c]) = if endsFrame c then judgeFrame init (frameEndOf c) else judgeFrame (init ++ [c]) .overlong := by
    simp only [frameVerdict, last, ends]
  have received : ∀ e, d.receiveAll p (.control sofCode :: init) = e →
      d.receiveAll p (.control sofCode :: (init ++ [c])) = e.receive p c := by
    rintro e rfl
    exact Device.receiveAll_append d p (.control sofCode :: init) [c]
  by_cases ending : endsFrame c = true
  · rw [if_pos ending, Bool.and_eq_true, List.all_eq_true, decide_eq_true_eq] at run
    obtain ⟨other, few⟩ := run
    have taken := (received _ (Device.receiveAll_open accepting between other few)).trans (Device.receive_collecting accepting init c)
    rw [if_pos ending, verdict] at judged
    by_cases eof : c = .control eofCode
    · subst eof
      exact ⟨init, _, .eof, cause, position, rfl, verdict, .inl ⟨rfl, rfl, judged.symm, taken⟩⟩
    · have sof : c = .control sofCode := by simpa [endsFrame, eof] using ending
      subst sof
      exact ⟨init, _, .sof, cause, position, rfl, verdict, .inr (.inl ⟨rfl, rfl, judged.symm, taken⟩)⟩
  · rw [if_neg ending, Bool.and_eq_true, Bool.and_eq_true, List.all_eq_true, decide_eq_true_eq, decide_eq_true_eq] at run
    obtain ⟨⟨other, long⟩, data⟩ := run
    obtain ⟨b, byte⟩ := Option.ne_none_iff_exists'.1 data
    have one : (dataBytes init).length = 28 := by
      simp only [dataBytes, List.filterMap_append, List.length_append, List.filterMap_cons, byte, List.filterMap_nil, List.length_cons,
        List.length_nil] at long ⊢
      omega
    have taken := (received _ (Device.receiveAll_open accepting between
      (fun c mem => other c (List.mem_append_left _ mem)) (by omega))).trans (Device.receive_collecting accepting init c)
    rw [Device.inFrameOn, charClass_other (other c (by simp))] at taken
    have ended := taken.trans (if_pos (le_of_eq long.symm))
    rw [if_neg ending, verdict] at judged
    refine ⟨init, c, .overlong, cause, position, rfl, verdict, .inr (.inr ⟨?_, rfl, judged.symm, ended⟩)⟩
    rintro rfl
    exact ending rfl

/-! ## Frames in DOWN and REFUSING (R147, R153) -/

theorem Device.receiveAll_fixed {d : Device} {p : Port} {chars : List LineChar} (fixed : ∀ c ∈ chars, d.receive p c = d) :
    d.receiveAll p chars = d := by
  induction chars with
  | nil => rfl
  | cons c chars ih =>
    exact (congrArg (·.receiveAll p chars) (fixed c List.mem_cons_self)).trans (ih fun c mem => fixed c (List.mem_cons_of_mem _ mem))

theorem frameChars_not_idle {kind seq : Byte} {payload : List Byte} {c : LineChar} (mem : c ∈ frameChars kind seq payload) :
    charClass c ≠ .idle := by
  simp only [frameChars, List.mem_append, List.mem_cons, List.mem_map, List.not_mem_nil, or_false] at mem
  rcases mem with (rfl | ⟨b, _, rfl⟩) | rfl
  · decide
  · exact fun idle => by cases idle
  · decide

theorem Device.receiveAll_frame_down {d : Device} {p : Port} (down : (d.ports.get p).state = .down) (kind seq : Byte)
    (payload : List Byte) :
    d.receiveAll p (frameChars kind seq payload) =
      { d with ports := d.ports.set p { d.ports.get p with silence := some (d.tb + 2000#32), training := 0 } } := by
  have first := Device.receive_of_down_other down (c := .control sofCode) (by decide)
  refine (congrArg (·.receiveAll p ((frameBytes kind seq payload).map .data ++ [.control eofCode])) first).trans
    (Device.receiveAll_fixed fun c mem => ?_)
  have other : charClass c ≠ .idle := frameChars_not_idle (List.mem_cons_of_mem _ mem)
  rw [Device.receive_of_down_other (by rw [PerPort.get_set_self]; exact down) other, PerPort.get_set_self, PerPort.set_set]

theorem Device.receiveAll_frame_refusing {d : Device} {p : Port} (refusing : (d.ports.get p).state = .refusing) (kind seq : Byte)
    (payload : List Byte) :
    d.receiveAll p (frameChars kind seq payload) =
      let l := d.ports.get p
      { d with ports := d.ports.set p { l with
          silence := some (d.tb + 2000#32)
          inRefused := false
          answers := l.answers ++ [.nak]
          counters := { l.counters with naksSent := countUp l.counters.naksSent } } } := by
  let refused : Device := (d.heard p).onPort p fun l => { l.nak with inRefused := true }
  have port : refused.ports.get p =
      { ({ d.ports.get p with silence := some (d.tb + 2000#32) } : LinkPort).nak with inRefused := true } := by
    simp only [refused, Device.heard_onPort, PerPort.get_set_self]
  have state : (refused.ports.get p).state = .refusing := by rw [port]; exact refusing
  have heard : refused.heard p = refused := Device.onPort_self (by rw [port]; rfl)
  have first : d.receive p (.control sofCode) = refused := Device.receive_of_refusing refusing _
  have middle : refused.receiveAll p ((frameBytes kind seq payload).map .data) = refused := by
    refine Device.receiveAll_fixed fun c mem => ?_
    obtain ⟨b, _, rfl⟩ := List.mem_map.1 mem
    exact (Device.receive_of_refusing state _).trans heard
  have last : refused.receive p (.control eofCode) = refused.onPort p fun l => { l with inRefused := false } := by
    rw [Device.receive_of_refusing state, heard]
    rfl
  calc d.receiveAll p (frameChars kind seq payload)
      = (refused.receiveAll p ((frameBytes kind seq payload).map .data)).receive p (.control eofCode) := by
        rw [← first]
        exact Device.receiveAll_append d p (.control sofCode :: (frameBytes kind seq payload).map .data) [.control eofCode]
    _ = refused.onPort p fun l => { l with inRefused := false } := by rw [middle, last]
    _ = _ := by
        simp only [refused, Device.onPort_onPort]
        exact Device.heard_onPort d p _

end Sys2Proof.Machine

namespace Sys2Proof

open Machine

/-- Settles O50: each kind's frame is judged good, taken by its port, and delivered. -/
theorem goodFramesDelivered : Obligations.GoodFramesDelivered := by
  refine ⟨?_, ?_, ?_⟩
  · intro d q p seq r accepting between l s waiting loaded full entry delivered
    have length : (obsPayload r).length ≤ 24 := by simp
    refine ⟨congrArg (fun e => Host.Outcome.next (State.mk e q))
        ((Device.receiveAll_good accepting between length (judgeFrame_obs seq r)).trans ?_),
      congrArg (fun e => Host.Outcome.next (State.mk e q))
        ((Device.receiveAll_good accepting between length (judgeFrame_lock seq r)).trans ?_)⟩
    · exact Device.deliverObservation_eq _ p .obs seq r
    · exact Device.deliverObservation_eq _ p .lock seq r
  · intro d q p seq accepting between l s taken
    refine ⟨fun r reach => ?_, fun i => ?_, fun payload fits => ?_⟩
    · refine congrArg (fun e => Host.Outcome.next (State.mk e q))
        ((Device.receiveAll_good accepting between (by simp) (judgeFrame_bearing seq reach)).trans ?_)
      have reached : decide (r.reach ≠ 0) = decide (r.reach = 1) := by
        refine decide_eq_decide.2 ⟨fun nonzero => ?_, fun one => by rw [one]; decide⟩
        bv_omega
      show Device.deliverBearing _ p r = _
      rw [Device.deliverBearing, reached]
      rfl
    · exact congrArg (fun e => Host.Outcome.next (State.mk e q))
        (Device.receiveAll_good accepting between (by simp) (judgeFrame_ident seq i))
    · refine congrArg (fun e => Host.Outcome.next (State.mk e q))
        ((Device.receiveAll_good accepting between fits (judgeFrame_pass seq fits)).trans ?_)
      show Device.deliverPass _ p payload = _
      rw [Device.deliverPass]
      refine if_congr Iff.rfl ?_ rfl
      simp only [Device.onPort, PerPort.get_set_self, PerPort.set_set]
      rfl
  · intro d q p seq accepting between l taken
    refine ⟨fun r low high => ?_, fun orderKind reason => ?_⟩
    · intro seen told
      refine congrArg (fun e => Host.Outcome.next (State.mk e q))
        ((Device.receiveAll_good accepting between (by simp) (judgeFrame_break seq low high)).trans ?_)
      exact Device.deliverBreak_eq _ p r
    · intro seen learned left
      refine congrArg (fun e => Host.Outcome.next (State.mk e q))
        ((Device.receiveAll_good accepting between (by simp) (judgeFrame_fail seq orderKind reason)).trans ?_)
      refine (Device.takeFail_eq seen p).trans ?_
      rw [Device.learnFailedTake_eq, Device.searcherLeft_eq]
      have ports : seen.ports.set p (seen.ports.get p).endOrder = d.ports.set p (seen.ports.get p).endOrder := PerPort.set_set _ _ _ _
      rw [ports]
      rfl

/-- Settles O51. -/
theorem badFramesRefused : Obligations.BadFramesRefused := by
  refine ⟨?_, ?_⟩
  · intro d q p accepting between l
    refine ⟨fun chars failure => ?_, fun kind seq payload position fits bad => ?_⟩
    · intro twice
      obtain ⟨init, c, ending, cause, position, rfl, verdict, ended⟩ := Device.receiveAll_checkFailure accepting between failure
      have last : twice = decide (c = .control 0xA1) := by simp only [twice, List.getLast?_concat, Option.some.injEq]
      refine ⟨cause, position, verdict, congrArg (fun e => Host.Outcome.next (State.mk e q)) ?_⟩
      rw [last]
      rcases ended with ⟨rfl, rfl, failed, run⟩ | ⟨rfl, rfl, failed, run⟩ | ⟨other, rfl, failed, run⟩
      · refine run.trans ((Device.endFrame_failed init failed).trans ?_)
        rw [← capturedKind_append (c := .control eofCode) rfl]
        rfl
      · refine run.trans ?_
        rw [Device.endFrame_failed init failed, ← capturedKind_append (c := .control sofCode) rfl]
        have again : ∀ e : Device, e.refuseOn p (.control sofCode) = e.onPort p fun l => { l.nak with inRefused := true } := fun _ => rfl
        rw [again]
        simp only [Device.onPort, PerPort.get_set_self, PerPort.set_set, LinkPort.nak, LinkPort.answer, LinkPort.count,
          List.append_assoc]
        rfl
      · refine run.trans ((Device.endFrame_failed init failed).trans ?_)
        have once : decide (c = .control 0xA1) = false := decide_eq_false other
        rw [once]
        rfl
    · refine congrArg (fun e => Host.Outcome.next (State.mk e q)) ((Device.receiveAll_frame accepting between fits).trans ?_)
      rw [Device.endFrame, bad]
      exact Device.collecting_onPort d p _ _
  · intro d q p seq kind a b r k g n payload l i mem
    have frame : ∃ kind seq payload, exec i ⟨d, q⟩ = .next ⟨d.receiveAll p (frameChars kind seq payload), q⟩ := by
      simp only [List.mem_cons, List.not_mem_nil, or_false] at mem
      rcases mem with rfl | rfl | rfl | rfl | rfl | rfl | rfl | rfl <;> exact ⟨_, _, _, rfl⟩
    obtain ⟨kind, seq, payload, run⟩ := frame
    refine ⟨fun down => ?_, fun refusing => ?_⟩
    · rw [run, Device.receiveAll_frame_down down]
    · rw [run, Device.receiveAll_frame_refusing refusing]

end Sys2Proof
end

section
/-! PROOFS. Rounding, the choice of a candidate, and the filter: O14, O16, O54. -/

namespace Sys2Proof.Machine

/-! ## Rounding (R4) -/

/-- Twice the error of a rounded quotient, below half a unit on the side of zero and at most half a unit on the other (R4). -/
theorem roundDiv_error {n d : Int} (positive : 0 < d) :
    (0 ≤ n → -d < 2 * (roundDiv n d * d - n) ∧ 2 * (roundDiv n d * d - n) ≤ d) ∧
      (n < 0 → -d ≤ 2 * (roundDiv n d * d - n) ∧ 2 * (roundDiv n d * d - n) < d) := by
  have quotient : ∀ m : Int, -d < 2 * ((2 * m + d) / (2 * d) * d - m) ∧ 2 * ((2 * m + d) / (2 * d) * d - m) ≤ d := by
    intro m
    have below := Int.ediv_mul_le (2 * m + d) (b := 2 * d) (by omega)
    have above := Int.lt_ediv_add_one_mul_self (2 * m + d) (b := 2 * d) (by omega)
    rw [show (2 * m + d) / (2 * d) * (2 * d) = 2 * ((2 * m + d) / (2 * d) * d) by ring] at below
    rw [show ((2 * m + d) / (2 * d) + 1) * (2 * d) = 2 * ((2 * m + d) / (2 * d) * d) + 2 * d by ring] at above
    omega
  refine ⟨fun positive_ => ?_, fun negative => ?_⟩
  · rw [roundDiv, if_pos positive_]
    exact quotient n
  · obtain ⟨low, high⟩ := quotient (-n)
    rw [roundDiv, if_neg (by omega), Int.neg_mul]
    omega

/-- A rounded quotient stands within half a unit (R4). -/
theorem roundDiv_close (n : Int) {d : Int} (positive : 0 < d) : 2 * (roundDiv n d * d - n).natAbs ≤ d.natAbs := by
  obtain ⟨nonneg, neg⟩ := roundDiv_error (n := n) positive
  by_cases sign : 0 ≤ n
  · have bounds := nonneg sign
    omega
  · have bounds := neg (by omega)
    omega

/-- At a tie the quotient farther from zero is taken (R4). -/
theorem roundDiv_tie (n : Int) {d : Int} (positive : 0 < d) (tie : 2 * (roundDiv n d * d - n).natAbs = d.natAbs) :
    n.natAbs < (roundDiv n d * d).natAbs := by
  obtain ⟨nonneg, neg⟩ := roundDiv_error (n := n) positive
  by_cases sign : 0 ≤ n
  · have bounds := nonneg sign
    omega
  · have bounds := neg (by omega)
    omega

/-! ## Choice (R39) -/

/-- The first of an ordered list that passes a test stands before every other that does. -/
theorem find_first {l : List Port} {place : Port → Nat} (sorted : l.Pairwise fun a b => place a < place b) (all : ∀ p, p ∈ l)
    {test : Port → Bool} {c : Port} (found : l.find? test = some c) :
    test c = true ∧ ∀ p, test p = true → place c ≤ place p := by
  obtain ⟨passes, before, after, rfl, fails⟩ := List.find?_eq_some_iff_append.1 found
  refine ⟨passes, fun p also => ?_⟩
  rcases List.mem_append.1 (all p) with mem | mem
  · have not_ := fails p mem
    rw [also] at not_
    cases not_
  · rcases List.mem_cons.1 mem with rfl | mem
    · exact le_refl _
    · exact Nat.le_of_lt ((List.pairwise_cons.1 (List.pairwise_append.1 sorted).2.1).1 p mem)

theorem Device.mem_tieOrder (d : Device) (p : Port) : p ∈ d.tieOrder := by
  unfold Device.tieOrder
  cases d.params.tieMode with
  | fixed => exact allPorts_mem p
  | rotating =>
    have all : ∀ last p : Port, p ∈ [last + 1, last + 2, last + 3, last] := by decide
    exact all d.track.lastTakePort p

/-- The place of a port in the order of TIE_MODE (R39). -/
def Device.tiePlace (d : Device) (p : Port) : Nat :=
  match d.params.tieMode with
  | .fixed => p.val
  | .rotating => (p - d.track.lastTakePort - 1).val

theorem Device.tieOrder_sorted (d : Device) : d.tieOrder.Pairwise fun a b => d.tiePlace a < d.tiePlace b := by
  unfold Device.tieOrder Device.tiePlace
  cases d.params.tieMode with
  | fixed =>
    have sorted : allPorts.Pairwise fun a b => a.val < b.val := by decide
    exact sorted
  | rotating =>
    have sorted : ∀ last : Port,
        [last + 1, last + 2, last + 3, last].Pairwise fun a b => (a - last - 1).val < (b - last - 1).val := by decide
    exact sorted d.track.lastTakePort

theorem Device.find_tieOrder_none {d : Device} {g : Grade} (none_ : (d.tieOrder.find? fun p => decide (d.grade p = g)) = none) (p : Port) :
    d.grade p ≠ g := by
  simpa using List.find?_eq_none.1 none_ p (d.mem_tieOrder p)

theorem Device.find_tieOrder_some {d : Device} {g : Grade} {c : Port}
    (found : (d.tieOrder.find? fun p => decide (d.grade p = g)) = some c) :
    d.grade c = g ∧ ∀ p, d.grade p = g → d.tiePlace c ≤ d.tiePlace p := by
  obtain ⟨passes, first⟩ := find_first d.tieOrder_sorted d.mem_tieOrder found
  exact ⟨of_decide_eq_true passes, fun p also => first p (decide_eq_true also)⟩

/-- What makes a station INELIGIBLE by its state, quiet setting, transform or port (R31, R38). -/
theorem Device.eligible_eq_false_iff (d : Device) (p : Port) :
    d.eligible p = false ↔
      (d.stations.get p).state ≠ .standby ∨ (d.stations.get p).quiet = true ∨ (d.xfu.records.get p).loaded = false ∨
        (d.ports.get p).state ≠ .accepting := by
  rw [Bool.eq_false_iff, Ne, Device.eligible_iff]
  simp only [Device.stationState, Device.hasTransform, not_and_or, Bool.not_eq_false, Bool.not_eq_true, ne_eq]

/-! ## The filter (R9 to R15) -/

/-- A point leaves the 32-bit range where its saturation differs from it (R24). -/
theorem Vec3.overflows32_eq (v : Vec3) : v.overflows32 = decide (v.saturate32 ≠ v) := by
  obtain ⟨x, y, z⟩ := v
  have parts : (Vec3.saturate32 ⟨x, y, z⟩ ≠ ⟨x, y, z⟩) ↔
      (Machine.saturate32 x ≠ x ∨ Machine.saturate32 y ≠ y ∨ Machine.saturate32 z ≠ z) := by
    rw [Vec3.saturate32, Ne, Vec3.mk.injEq, not_and_or, not_and_or]
  rw [Vec3.overflows32, decide_eq_decide.2 parts, Bool.decide_or, Bool.decide_or, Bool.or_assoc]
  rfl

theorem Vec3.within_iff (v : Vec3) (n : Nat) : v.within n = true ↔ v.x.natAbs ≤ n ∧ v.y.natAbs ≤ n ∧ v.z.natAbs ≤ n := by
  simp [Vec3.within, and_assoc]

theorem Device.scanRequest_of_angles {d : Device} {r : TrackResult} {a : OwnerAngles} (angles : d.track.ownerAngles = some a) :
    d.scanRequest r =
      if (d.track.state = .tracking ∨ d.track.state = .handoff) ∧ d.track.blind = false ∧ rowOnMap (rowOf r.el) = true then
        some { port := r.source, startAz := r.az, startEl := r.el,
               endAz := predictedAzimuth r.az a.az d.params.lookahead (d.track.age r.time),
               endEl := predictedElevation r.el a.el d.params.lookahead (d.track.age r.time), result := none }
      else none := by
  simp only [Device.scanRequest, angles]

theorem Device.scanRequest_of_none {d : Device} {r : TrackResult} (angles : d.track.ownerAngles = none) : d.scanRequest r = none := by
  simp only [Device.scanRequest, angles]

theorem predictedAzimuth_eq (az before : Half) (lookahead : Nat) (dt : Int) :
    predictedAzimuth az before lookahead dt = az + BitVec.ofInt 16 (roundDiv ((az - before).toInt * lookahead) dt) := by
  rw [predictedAzimuth, azimuthDiff, BitVec.ofInt_add, BitVec.ofInt_natCast, BitVec.ofNat_toNat, BitVec.setWidth_eq]

theorem rowOnMap_iff (r : Int) : rowOnMap r = true ↔ 0 ≤ r ∧ r ≤ 127 := by
  have rows : (Config.mapRows : Int) = 128 := rfl
  simp only [rowOnMap, Bool.and_eq_true, decide_eq_true_eq]
  omega

theorem Device.askScan_eq (d : Device) (s : Option Scan) :
    d.askScan s =
      match s with
      | some q => { d with smu := { d.smu with scans := d.smu.scans ++ [q] } }
      | none => d := by
  cases s <;> rfl

end Sys2Proof.Machine

namespace Sys2Proof

open Machine

/-- Settles O14: each axis of a transform is one rounded quotient by 2^30. -/
theorem arithmeticRounds : Obligations.ArithmeticRounds := by
  refine ⟨fun n d positive => ⟨roundDiv_close n positive, roundDiv_tie n positive⟩, fun v p => ?_⟩
  have axis : ∀ exact_ : Int, 2 * (roundDiv exact_ 1073741824 * 1073741824 - exact_).natAbs ≤ 1073741824 :=
    fun exact_ => roundDiv_close exact_ (by decide)
  exact ⟨axis _, axis _, axis _, axis _, axis _, axis _⟩

/-- Settles O16. -/
theorem choiceTakesBestStation : Obligations.ChoiceTakesBestStation := by
  refine ⟨fun d p => ?_, fun d => ?_⟩
  · intro s
    have ineligible : (d.eligible p = false ∨ d.track.owner = some p) ↔
        (s.state ≠ .standby ∨ s.quiet = true ∨ (d.xfu.records.get p).loaded = false ∨ (d.ports.get p).state ≠ .accepting ∨
          d.track.owner = some p) := by
      rw [Device.eligible_eq_false_iff, or_assoc, or_assoc, or_assoc]
    refine if_congr ineligible rfl (if_congr Option.isSome_iff_ne_none rfl ?_)
    cases s.answer with
    | none => rfl
    | some a => rfl
  · intro best place
    have chosen : d.choose = (d.tieOrder.find? fun p => decide (d.grade p = .good)).or
        (d.tieOrder.find? fun p => decide (d.grade p = .fair)) := rfl
    cases good : d.tieOrder.find? fun p => decide (d.grade p = .good) with
    | some c =>
      obtain ⟨grade, first⟩ := Device.find_tieOrder_some good
      have best_ : best = .good := if_pos ⟨c, grade⟩
      rw [chosen, good, best_]
      exact ⟨grade, first⟩
    | none =>
      have noGood := Device.find_tieOrder_none good
      have best_ : best = .fair := if_neg fun ⟨p, grade⟩ => noGood p grade
      rw [chosen, good, Option.none_or]
      cases fair : d.tieOrder.find? fun p => decide (d.grade p = .fair) with
      | some c =>
        obtain ⟨grade, first⟩ := Device.find_tieOrder_some fair
        rw [best_]
        exact ⟨grade, first⟩
      | none => exact fun p => ⟨noGood p, Device.find_tieOrder_none fair p⟩

/-- Settles O54: the tests are read in their order. -/
theorem observationFiltered : Obligations.ObservationFiltered := by
  refine ⟨?_, ?_⟩
  · intro d r dt ahead pre res within place speed fit slow raw rawVelocity position velocity counters updated seeded stale
    have inside : ∀ n, (d.track.residual r).within n = true ↔ within n := fun n => Vec3.within_iff _ n
    have sat : d.updateSat r = (r.sat || decide (position ≠ raw)) := congrArg (r.sat || ·) (Vec3.overflows32_eq _)
    have update : ∀ after, d.update r after = updated after := by
      intro after
      rw [Device.update, sat]
      rfl
    have age : d.track.age r.time = dt := rfl
    refine ⟨fun late => if_pos late, fun gap => ?_, fun fresh near hit => ?_, fun fresh near miss => ?_, fun after => rfl,
      fun after fresh => ?_, ?_⟩
    · refine (if_neg ?_).trans (if_pos gap)
      have := Int.natCast_nonneg d.params.gap
      omega
    · refine (if_neg (by omega)).trans ((if_neg (by omega)).trans ((if_pos ((inside _).2 hit)).trans ?_))
      rw [update]
      exact Device.askScan_eq _ _
    · exact (if_neg (by omega)).trans ((if_neg (by omega)).trans (if_neg fun h => miss ((inside _).1 h)))
    · exact if_congr Iff.rfl rfl (update after)
    · exact if_congr Iff.rfl rfl (if_congr Iff.rfl rfl (if_congr (inside _) rfl rfl))
  · intro d r dt row wanted
    have asked : ((d.track.state = .tracking ∨ d.track.state = .handoff) ∧ d.track.blind = false ∧ rowOnMap (rowOf r.el) = true) ↔
        wanted := and_congr Iff.rfl (and_congr Iff.rfl (rowOnMap_iff _))
    refine ⟨fun a angles wants => ?_, fun none_ => ?_⟩
    · rw [Device.scanRequest_of_angles angles, if_pos (asked.2 wants), predictedAzimuth_eq]
      rfl
    · cases angles : d.track.ownerAngles with
      | none => exact Device.scanRequest_of_none angles
      | some a =>
        rw [angles] at none_
        rw [Device.scanRequest_of_angles angles]
        exact if_neg fun h => (none_.resolve_left (by simp)) (asked.1 h)

end Sys2Proof
end

section
/-! PROOFS. The transform unit's grants and completions, and the LOCKs judged by the track unit: O52, O53, O55. -/

namespace Sys2Proof.Machine

/-! ## The ring of requesters (R135) -/

/-- Requester n of the ring, counted from port 0. -/
def Requester.nth (n : Nat) : Requester :=
  match n % 5 with
  | 0 => .port 0
  | 1 => .port 1
  | 2 => .port 2
  | 3 => .port 3
  | _ => .queryQueue

/-- The place of a requester in the ring. -/
def Requester.place (r : Requester) : Nat :=
  match r with
  | .port p => p.val
  | .queryQueue => 4

theorem Requester.ring_eq (r : Requester) : r.ring = (List.range 5).map fun i => Requester.nth (r.place + i) := by
  cases r with
  | port p => fin_cases p <;> rfl
  | queryQueue => rfl

theorem Requester.after_port (p : Port) : (Requester.port p).after = Requester.nth (p.val + 1) := by fin_cases p <;> rfl

theorem Requester.eq_nth (r : Requester) : ∃ i, i < 5 ∧ r = Requester.nth i := by
  cases r with
  | port p => exact ⟨p.val, by omega, by fin_cases p <;> rfl⟩
  | queryQueue => exact ⟨4, by omega, rfl⟩

theorem Xfu.waiting_port (x : Xfu) (p : Port) : x.waiting (.port p) = true ↔ x.ingest.get p ≠ [] := by
  simp [Xfu.waiting]

theorem Xfu.waiting_queryQueue (x : Xfu) : x.waiting .queryQueue = true ↔ x.queryQueue ≠ [] := by
  simp [Xfu.waiting]

/-- The first requester with an entry, counted in the ring from the rotation pointer (R135). -/
theorem Xfu.nextRequester_eq_some {x : Xfu} {i : Nat} (inside : i < 5) (holds : x.waiting (.nth (x.pointer.place + i)) = true)
    (first : ∀ j, j < i → ¬ x.waiting (.nth (x.pointer.place + j)) = true) :
    x.nextRequester = some (.nth (x.pointer.place + i)) := by
  rw [Xfu.nextRequester, Requester.ring_eq, List.find?_eq_some_iff_getElem]
  refine ⟨holds, i, by simpa using inside, by simp, fun j before => ?_⟩
  simpa using first j before

theorem Xfu.nextRequester_eq_none {x : Xfu} (none_ : ∀ i, i < 5 → ¬ x.waiting (.nth i) = true) : x.nextRequester = none := by
  refine List.find?_eq_none.2 fun r _ => ?_
  obtain ⟨i, inside, rfl⟩ := r.eq_nth
  exact none_ i inside

/-! ## Grants (R125, R135, R136, R138) -/

theorem Xfu.rotate_port (x : Xfu) (p : Port) :
    x.rotate (.port p) =
      { x with
        pairFlag := decide (x.pairMode = true ∧ x.pairFlag = false ∧ x.ingest.get p ≠ [])
        pointer := if x.pairMode = true ∧ x.pairFlag = false ∧ x.ingest.get p ≠ [] then .port p else .nth (p.val + 1) } := by
  have waits : (x.ingest.get p).isEmpty = false ↔ x.ingest.get p ≠ [] := by simp
  rw [Xfu.rotate, Requester.after_port]
  by_cases pairs : x.pairMode = true ∧ x.pairFlag = false ∧ x.ingest.get p ≠ []
  · rw [if_pos pairs, decide_eq_true pairs, if_pos ⟨pairs.1, pairs.2.1, waits.2 pairs.2.2⟩]
  · rw [if_neg pairs, decide_eq_false pairs, if_neg fun h => pairs ⟨h.1, h.2.1, waits.1 h.2.2⟩]

theorem Device.grant_port {d : Device} {p : Port} {e : IngestEntry} {rest : List IngestEntry} (free : d.xfu.operation = none)
    (next : d.xfu.nextRequester = some (.port p)) (queue : d.xfu.ingest.get p = e :: rest) :
    d.grant =
      d.onXfu fun x => ({ x with ingest := x.ingest.set p rest }.rotate (.port p)).startJob p (.forward p e) := by
  simp only [Device.grant, free, next, queue]

theorem Device.grant_query {d : Device} {r : InverseRequest} {rest : List InverseRequest} (free : d.xfu.operation = none)
    (next : d.xfu.nextRequester = some .queryQueue) (queue : d.xfu.queryQueue = r :: rest) :
    d.grant =
      d.onXfu fun x => ({ x with queryQueue := rest }.rotate .queryQueue).startJob r.station
        (.inverse r (if r.kind = InverseKind.query then some (d.stations.get r.station).transformGen else none)) := by
  simp only [Device.grant, free, next, queue]
  cases r.kind <;> rfl

theorem Device.grant_idle {d : Device} (idle : d.xfu.operation ≠ none ∨ d.xfu.nextRequester = none) : d.grant = d := by
  unfold Device.grant
  split
  · next free next => exact absurd next (by rw [idle.resolve_left (not_not.2 free)]; simp)
  · next free next => exact absurd next (by rw [idle.resolve_left (not_not.2 free)]; simp)
  · rfl

/-! ## Completions (R6, R7, R8, R127, R129) -/

theorem Xfu.countForward_eq (x : Xfu) (sat : Bool) :
    x.countForward sat = { x with forwardSat := if sat then countUp x.forwardSat else x.forwardSat } := by
  cases sat <;> rfl

theorem Xfu.countInverse_eq (x : Xfu) (sat : Bool) :
    x.countInverse sat = { x with inverseSat := if sat then countUp x.inverseSat else x.inverseSat } := by
  cases sat <;> rfl

/-- A LOCK with no matching role from a station with a link (R8). -/
theorem Device.answerLock_eq {d : Device} {p : Port} (present : d.stationState p ≠ .absent) :
    d.answerLock p =
      { d with
        ports := d.ports.set p ((d.ports.get p).placeRelease .unsolicited)
        track := { d.track with counters :=
          if d.track.latePort = some p then { d.track.counters with lateLocks := countUp d.track.counters.lateLocks }
          else { d.track.counters with unsolicitedLocks := countUp d.track.counters.unsolicitedLocks } } } := by
  have placed : ∀ e : Device, e.stationState p ≠ .absent →
      e.sendRelease p .unsolicited = { e with ports := e.ports.set p ((e.ports.get p).placeRelease .unsolicited) } :=
    fun e here => if_neg here
  exact placed (d.onTrackCounters fun c =>
    if d.track.latePort = some p then { c with lateLocks := countUp c.lateLocks }
    else { c with unsolicitedLocks := countUp c.unsolicitedLocks }) present

/-- A result goes where its source's role and its kind send it (R6, R7, R8). -/
theorem Device.routeResult_eq (d : Device) (r : TrackResult) :
    d.routeResult r =
      if d.stationState r.source = .absent then d.countForeign
      else if d.track.owner = some r.source then
        (if d.track.blind = true ∧ r.kind = .lock then d.confirmRelock r r.source else d.observe r)
      else if r.kind = .obs then d.countForeign
      else if d.track.state = .handoff ∧ d.track.candidate = some r.source then d.confirmTake r r.source
      else if d.track.state = .acquire ∧ d.stationState r.source = .searching then d.winSearch r
      else if d.track.state = .search ∧ d.stationState r.source = .searching then d.resolveSearch r
      else d.answerLock r.source := by
  unfold Device.routeResult
  refine if_congr Iff.rfl rfl (if_congr Iff.rfl rfl ?_)
  cases r.kind with
  | obs => rfl
  | lock =>
    refine Eq.trans ?_ (if_neg (by decide)).symm
    exact if_congr Iff.rfl rfl (if_congr and_comm rfl (if_congr and_comm rfl rfl))

theorem Device.complete_forward {d : Device} {p : Port} {e : IngestEntry} {v : TransformValues}
    (operation : d.xfu.operation = some ⟨.forward p e, v⟩) :
    d.complete =
      ({ d with xfu := { d.xfu with
          operation := none
          forwardSat := if (v.forward e.point).overflows32 then countUp d.xfu.forwardSat else d.xfu.forwardSat } } :
        Device).routeResult (forwardResult v p e) := by
  simp only [Device.complete, operation, Xfu.countForward_eq]
  rfl

theorem Device.complete_inverse {d : Device} {k : InverseRequest} {gen : Option Byte} {v : TransformValues}
    (operation : d.xfu.operation = some ⟨.inverse k gen, v⟩) :
    d.complete =
      let free : Device := { d with xfu := { d.xfu with
        operation := none
        inverseSat := if (v.inverse k.point).overflows32 then countUp d.xfu.inverseSat else d.xfu.inverseSat } }
      if k.kind = .query then free.queryResult k.station (v.inverse k.point).saturate32 gen
      else free.searchResult k.station (v.inverse k.point).saturate32 := by
  simp only [Device.complete, operation, Xfu.countInverse_eq]
  cases k.kind <;> rfl

theorem Device.complete_idle {d : Device} (idle : d.xfu.operation = none) : d.complete = d := by
  simp only [Device.complete, idle]

/-! ## LOCKs (R15, R45, R46, R61, R62, R70) -/

/-- A LOCK applied leaves the places of the stations, and the owner. -/
theorem Device.applyLock_places (d : Device) (r : TrackResult) (after : TrackState) :
    (d.applyLock r after).stations = d.stations ∧ (d.applyLock r after).ports = d.ports ∧
      (d.applyLock r after).track.currentOrder = d.track.currentOrder ∧ (d.applyLock r after).track.owner = d.track.owner ∧
      (d.applyLock r after).track.counters.handoffsDone = d.track.counters.handoffsDone := by
  unfold Device.applyLock
  split
  · exact ⟨rfl, rfl, rfl, rfl, rfl⟩
  · exact ⟨rfl, rfl, rfl, rfl, rfl⟩

theorem Device.makeOwner_eq (d : Device) (p : Port) :
    d.makeOwner p =
      { d with
        stations := d.stations.set p { d.stations.get p with state := .owner }
        ports := d.ports.set p (d.ports.get p).endOrder
        track := { d.track with
          owner := some p, pathResult := ⟨none, 0, false⟩, currentOrder := d.track.currentOrder.set p none } } := rfl

/-- What a LOCK that is refused is first counted as (R9, R15). -/
def Device.lockCounted (d : Device) (r : TrackResult) : Device :=
  if d.judgeLock r = .stale then
    { d with track := { d.track with counters := { d.track.counters with stale := countUp d.track.counters.stale } } }
  else d

theorem Device.confirmTake_of_good {d : Device} {r : TrackResult} (good : d.judgeLock r = .pastGap ∨ d.judgeLock r = .inside) (c : Port) :
    d.confirmTake r c = d.completeHandoff r c := by
  rcases good with judged | judged <;> simp only [Device.confirmTake, judged]

theorem Device.confirmTake_of_bad {d : Device} {r : TrackResult} (bad : ¬ (d.judgeLock r = .pastGap ∨ d.judgeLock r = .inside)) (c : Port) :
    d.confirmTake r c = ((d.lockCounted r).releaseStation c .wrongTarget).failTake c .wrongTarget := by
  unfold Device.confirmTake Device.lockCounted
  cases judged : d.judgeLock r with
  | stale => rfl
  | outside => rfl
  | pastGap => exact absurd (.inl judged) bad
  | inside => exact absurd (.inr judged) bad

theorem Device.confirmRelock_of_good {d : Device} {r : TrackResult} (good : d.judgeLock r = .pastGap ∨ d.judgeLock r = .inside)
    (o : Port) : d.confirmRelock r o = d.acceptRelock r o := by
  rcases good with judged | judged <;> simp only [Device.confirmRelock, judged]

theorem Device.confirmRelock_of_bad {d : Device} {r : TrackResult} (bad : ¬ (d.judgeLock r = .pastGap ∨ d.judgeLock r = .inside))
    (o : Port) : d.confirmRelock r o = (d.lockCounted r).rejectRelock o := by
  unfold Device.confirmRelock Device.lockCounted
  cases judged : d.judgeLock r with
  | stale => rfl
  | outside => rfl
  | pastGap => exact absurd (.inl judged) bad
  | inside => exact absurd (.inr judged) bad

theorem Device.lockCounted_candidate (d : Device) (r : TrackResult) : (d.lockCounted r).track.candidate = d.track.candidate := by
  unfold Device.lockCounted
  split <;> rfl

theorem Device.abandonTake_of_some {d : Device} {c : Port} (candidate : d.track.candidate = some c) :
    d.abandonTake =
      { d with
        stations := d.stations.set c { d.stations.get c with state := if d.stationState c = .absent then .absent else .standby }
        ports := d.ports.set c (d.ports.get c).endOrder
        track := { d.track with
          candidate := none
          currentOrder := d.track.currentOrder.set c none
          deadlines := { d.track.deadlines with handoff := none } } } := by
  simp only [Device.abandonTake, candidate]
  rfl

theorem Device.abandonTake_of_none {d : Device} (candidate : d.track.candidate = none) : d.abandonTake = d := by
  simp only [Device.abandonTake, candidate]

/-- The former owner stands down and the candidate becomes the owner, the places of the stations being those of d (R46). -/
theorem Device.handOver_eq {d e : Device} {o c : Port} (owner : e.track.owner = some o) (other : o ≠ c)
    (stations : e.stations = d.stations) (ports : e.ports = d.ports) (orders : e.track.currentOrder = d.track.currentOrder) :
    e.releaseFormerOwner.makeOwner c =
      { e with
        stations := (d.stations.set o { d.stations.get o with
            state := if d.stationState o = .absent then .absent else .standby }).set c { d.stations.get c with state := .owner }
        ports := (d.ports.set o
            (if d.stationState o = .absent then d.ports.get o else (d.ports.get o).placeRelease .handedOff).endOrder).set c
            (d.ports.get c).endOrder
        track := { e.track with
          owner := some c, pathResult := ⟨none, 0, false⟩, currentOrder := (d.track.currentOrder.set o none).set c none } } := by
  have released : e.releaseFormerOwner = e.releaseStation o .handedOff := by simp only [Device.releaseFormerOwner, owner]
  rw [released, Device.releaseStation_eq, Device.makeOwner_eq]
  simp only [Device.withPlaces, PerPort.get_set_other _ _ _ _ (Ne.symm other), stations, ports, orders, Device.stationState]
  rfl

/-- The winner becomes the owner and the other SEARCHING stations are released (R33, R70). -/
theorem Device.winner_eq {d : Device} {w : Port} :
    (d.makeOwner w).releaseSearching .notChosen (some w) =
      { d with
        stations := eachPort fun p =>
          if p = w then { d.stations.get p with state := .owner }
          else if d.stationState p = .searching then { d.stations.get p with state := .standby } else d.stations.get p
        ports := eachPort fun p =>
          if p = w then (d.ports.get p).endOrder
          else if d.stationState p = .searching then ((d.ports.get p).placeRelease .notChosen).endOrder else d.ports.get p
        track := { d.track with
          owner := some w, pathResult := ⟨none, 0, false⟩
          currentOrder := eachPort fun p => if p = w ∨ d.stationState p = .searching then none else d.track.currentOrder.get p } } := by
  have who : ∀ p, decide ((d.makeOwner w).stationState p = .searching ∧ some p ≠ some w) =
      decide (d.stationState p = .searching ∧ p ≠ w) := fun p => by
    by_cases at_ : p = w
    · simp [at_]
    · have state : (d.makeOwner w).stationState p = d.stationState p := by
        rw [Device.stationState, Device.makeOwner_eq]
        exact congrArg Station.state (PerPort.get_set_other _ _ _ _ at_)
      rw [state]
      simp [at_]
  rw [Device.releaseSearching_eq, Device.freed_congr _ who]
  refine Device.withPlaces_congr (d.makeOwner w) (fun p => ?_) (fun p => ?_) (fun p => ?_) <;> rw [get_eachPort, get_eachPort] <;>
    by_cases at_ : p = w
  · simp [at_, Device.makeOwner_eq]
  · by_cases searching : d.stationState p = .searching
    · have inState : (d.stations.get p).state = .searching := searching
      simp [at_, searching, Device.makeOwner_eq, PerPort.get_set_other, Station.standing, inState]
    · simp [at_, searching, Device.makeOwner_eq, PerPort.get_set_other]
  · simp [at_, Device.makeOwner_eq]
  · by_cases searching : d.stationState p = .searching
    · have inState : (d.stations.get p).state = .searching := searching
      simp [at_, Device.makeOwner_eq, PerPort.get_set_other, LinkPort.released, Device.stationState, inState]
    · simp [at_, searching, Device.makeOwner_eq, PerPort.get_set_other]
  · simp [at_, Device.makeOwner_eq]
  · by_cases searching : d.stationState p = .searching <;>
      simp [at_, searching, Device.makeOwner_eq, PerPort.get_set_other]

/-- A SEARCHING station released (R70, R71). -/
theorem Device.releaseStation_of_searching {d : Device} {p : Port} (searching : d.stationState p = .searching) (reason : ReleaseReason) :
    d.releaseStation p reason =
      { d with
        stations := d.stations.set p { d.stations.get p with state := .standby }
        ports := d.ports.set p ((d.ports.get p).placeRelease reason).endOrder
        track := { d.track with currentOrder := d.track.currentOrder.set p none } } := by
  have inState : (d.stations.get p).state = .searching := searching
  rw [Device.releaseStation_eq, searching, Station.standing, inState]
  rfl

end Sys2Proof.Machine

namespace Sys2Proof

open Machine

/-- Settles O52. -/
theorem grantServesRing : Obligations.GrantServesRing := by
  intro d q ring first holds started
  have waits : ∀ r, holds r ↔ d.xfu.waiting r = true := by
    intro r
    cases r with
    | port p => exact (d.xfu.waiting_port p).symm
    | queryQueue => exact d.xfu.waiting_queryQueue.symm
  have place : first = d.xfu.pointer.place := rfl
  have nth : ring = Requester.nth := rfl
  refine ⟨fun free i inside held before => ?_, fun idle => congrArg (fun e => Host.Outcome.next (State.mk e q)) (Device.grant_idle ?_)⟩
  · have next : d.xfu.nextRequester = some (ring (first + i)) :=
      Xfu.nextRequester_eq_some inside ((waits _).1 held) fun j low h => before j low ((waits _).2 h)
    refine ⟨fun p e rest at_ queue => ?_, fun r rest at_ queue => ?_⟩
    · intro pairs left
      refine congrArg (fun e => Host.Outcome.next (State.mk e q)) ((Device.grant_port free (next.trans (congrArg some at_)) queue).trans ?_)
      rw [Device.onXfu, Xfu.rotate_port]
      simp only [PerPort.get_set_self]
      rfl
    · intro left gen
      exact congrArg (fun e => Host.Outcome.next (State.mk e q)) (Device.grant_query free (next.trans (congrArg some at_)) queue)
  · exact idle.imp_right fun none_ => Xfu.nextRequester_eq_none fun i inside h => none_ i inside ((waits _).2 h)

/-- Settles O53. -/
theorem completionDelivers : Obligations.CompletionDelivers := by
  intro d q
  refine ⟨fun p e v operation => ?_, fun k gen v operation => ?_,
    fun idle => congrArg (fun e => Host.Outcome.next (State.mk e q)) (Device.complete_idle idle)⟩
  · intro r free count foreign answered
    refine congrArg (fun e => Host.Outcome.next (State.mk e q))
      ((Device.complete_forward operation).trans ((Device.routeResult_eq free r).trans ?_))
    by_cases absent : d.stationState p = .absent
    · rw [if_pos absent]
      exact if_pos absent
    · rw [if_neg absent, Device.answerLock_eq (d := free) (p := r.source) absent]
      exact if_neg absent
  · intro p s raw free
    refine ⟨fun kind => ?_, fun kind => ?_⟩
    · refine congrArg (fun e => Host.Outcome.next (State.mk e q)) ((Device.complete_inverse operation).trans ?_)
      exact if_pos kind
    · intro left
      refine congrArg (fun e => Host.Outcome.next (State.mk e q)) ((Device.complete_inverse operation).trans ?_)
      refine (if_neg (by rw [kind]; decide)).trans (if_congr Iff.rfl ?_ rfl)
      exact apply_ite Device.endCheck _ _ _

/-- Settles O55. -/
theorem locksConfirmed : Obligations.LocksConfirmed := by
  refine ⟨?_, ?_⟩
  · intro d r good counted freed seen sat
    have released : ∀ p, freed p counted = (d.lockCounted r).releaseStation p .wrongTarget :=
      fun p => (Device.releaseStation_eq _ p _).symm
    refine ⟨fun c o owner other => ?_, fun o state => ?_⟩
    · intro applied done
      obtain ⟨stations, ports, orders, owns, dones⟩ := Device.applyLock_places seen r .tracking
      refine ⟨fun is => (Device.confirmTake_of_good is c).trans ?_, fun not_ => ?_⟩
      · refine congrArg (Device.changeState · .tracking sat) ?_
        have before : d.track.counters.handoffsDone = applied.track.counters.handoffsDone := dones.symm
        have handed := Device.handOver_eq (d := d) (e := applied) (owns.trans owner) other stations ports orders
        simp only [done, before]
        exact congrArg (fun e : Device => (e.onTrack fun t =>
          { t with
            candidate := none
            deadlines := { t.deadlines with handoff := none }
            counters := { t.counters with handoffsDone := countUp t.counters.handoffsDone } }).raise .handoffDone) handed
      · rw [released]
        exact Device.confirmTake_of_bad not_ c
    · intro applied relocked dropped
      refine ⟨fun is => (Device.confirmRelock_of_good is o).trans ?_, fun not_ => (Device.confirmRelock_of_bad not_ o).trans ?_⟩
      · have after : (if d.track.state = .coast then TrackState.tracking else d.track.state) =
            if d.track.state = .coast then .tracking else .handoff := by
          rcases state with at_ | at_ <;> rw [at_]
          rfl
        have stations : applied.stations = d.stations := (Device.applyLock_places seen r _).1
        have relock : (applied.setStationState o .owner).emptyPathResult = relocked := by
          simp only [Device.setStationState, Device.onStation, stations]
          rfl
        simp only [Device.acceptRelock, after]
        exact if_congr Iff.rfl (congrArg (Device.changeState · .tracking sat) relock) relock
      · have drop : ((d.lockCounted r).releaseStation o .wrongTarget).onTrack (fun t => { t with owner := none }) = dropped :=
          congrArg (Device.onTrack · fun t => { t with owner := none }) (released o).symm
        rw [Device.rejectRelock, drop]
        refine congrArg Device.enterSearch ?_
        have named : dropped.track.candidate = d.track.candidate := d.lockCounted_candidate r
        cases candidate : d.track.candidate with
        | none => exact Device.abandonTake_of_none (named.trans candidate)
        | some c => exact Device.abandonTake_of_some (named.trans candidate)
  · intro d r searching others seeded won loser
    refine ⟨?_, fun m point => ?_⟩
    · refine congrArg (Device.changeState · .tracking r.sat) ?_
      have winner := Device.winner_eq (d := seeded) (w := r.source)
      have other : ∀ {α : Type} {p : Port} {a b c : α}, (if p = r.source then a else if others p = true then b else c) =
          if p = r.source then a else if d.stationState p = .searching then b else c := by
        intro α p a b c
        by_cases at_ : p = r.source <;> simp [others, at_]
      have ended : ∀ p, (p = r.source ∨ others p = true) ↔ (p = r.source ∨ d.stationState p = .searching) := by
        intro p
        by_cases at_ : p = r.source <;> simp [others, at_]
      simp only [won, other, ended]
      exact congrArg (Device.onTrack · fun t =>
        { t with searchPending := .same false, searchPoint := none, deadlines := { t.deadlines with search := none } }) winner
    · intro near dt
      have radius : d.inRadius r = true ↔ near := by
        rw [Device.inRadius, point]
        exact Vec3.within_iff _ _
      refine ⟨fun fresh is => ?_, fun fresh not_ => ?_, fun late => ?_⟩
      · exact (if_neg (Int.not_le.2 fresh)).trans (if_pos (radius.2 is))
      · rw [show loser d = d.releaseStation r.source .outOfRadius from (Device.releaseStation_of_searching searching _).symm]
        exact (if_neg (Int.not_le.2 fresh)).trans (if_neg fun h => not_ (radius.1 h))
      · refine (if_pos late).trans (congrArg Device.endCheck ?_)
        exact Device.releaseStation_of_searching (d := d.countStale) searching .outOfRadius

end Sys2Proof
end

section
/-! PROOFS. The map commands judged, stepped and ended, a fill and the sweep taken to their ends: O26, O27, O28, O29. -/

namespace Sys2Proof.Machine

/-! ## The judgement of a map command (R93) -/

theorem Device.busy_eq_false {d : Device} (running : d.smu.running = none) (sweep : d.smu.sweep = none) : d.smu.busy = false := by
  simp [Smu.busy, running, sweep]

theorem Device.judgeMap_of_good {d : Device} {range : Bool} {command : Option MapCommand} {c : MapCommand}
    (running : d.smu.running = none) (sweep : d.smu.sweep = none) (good : range = true) (named : command = some c) :
    d.judgeMap range command = .taken (d.acceptMapCommand c) := by
  simp [Device.judgeMap, Device.busy_eq_false running sweep, good, named]

theorem Device.judgeMap_of_busy {d : Device} (range : Bool) (command : Option MapCommand)
    (busy : d.smu.running.isSome = true ∨ d.smu.sweep.isSome = true) : d.judgeMap range command = .refused .busy :=
  if_pos (by simpa [Smu.busy, or_comm] using busy)

theorem Device.judgeMap_of_range {d : Device} {range : Bool} {good : Prop} (command : Option MapCommand)
    (running : d.smu.running = none) (sweep : d.smu.sweep = none) (iff_ : range = true ↔ good) (bad : ¬ good) :
    d.judgeMap range command = .refused .range := by
  have off : range = false := Bool.eq_false_iff.2 fun on => bad (iff_.1 on)
  simp [Device.judgeMap, Device.busy_eq_false running sweep, off]

theorem Device.judgeMap_of_value {d : Device} {range : Bool} {command : Option MapCommand} (running : d.smu.running = none)
    (sweep : d.smu.sweep = none) (good : range = true) (unnamed : command = none) :
    d.judgeMap range command = .refused .value := by
  simp [Device.judgeMap, Device.busy_eq_false running sweep, good, unnamed]

theorem portOfWord_isSome_iff (w : Word) : (portOfWord w).isSome = true ↔ w.toNat < 4 := by
  unfold portOfWord
  split <;> simp_all

theorem cellOfWord_eq_none {w : Word} (high : 5 < w.toNat) : cellOfWord w = none := by
  have not_ : ∀ v : Word, v.toNat ≤ 5 → w ≠ v := fun v low at_ => by rw [at_] at high; omega
  simp only [cellOfWord, if_neg (not_ 0 (by decide)), if_neg (not_ 1 (by decide)), if_neg (not_ 2 (by decide)),
    if_neg (not_ 3 (by decide)), if_neg (not_ 4 (by decide)), if_neg (not_ 5 (by decide))]

theorem Device.judgeMapClear_eq (d : Device) :
    d.judgeMapClear =
      d.judgeMap (decide (d.sbi.parameters.p0.toNat ≤ 4)) (some (.clear (portOfWord d.sbi.parameters.p0))) := rfl

theorem orderOfNat_toNat (b : Bool) : orderOfNat b.toNat = some b := by cases b <;> rfl

theorem orderOfNat_eq_none {n : Nat} (high : 1 < n) : orderOfNat n = none := by
  rw [orderOfNat, if_neg (by omega), if_neg (by omega)]

theorem toInt_eq_zero_iff (w : Word) : w.toInt = 0 ↔ w = 0 := by
  rw [show (0 : Int) = (0 : Word).toInt from rfl, BitVec.toInt_inj]

/-! The parameters in range of the commands (R93). -/

theorem fillRange_iff (w : ParameterWords) :
    ((portOfWord w.p0).isSome && rectangleInRange w.p1.toNat w.p2.toNat w.p3.toNat w.p4.toNat) = true ↔
      w.p0.toNat < 4 ∧ w.p1.toNat < 512 ∧ w.p2.toNat < 128 ∧ 1 ≤ w.p3.toNat ∧ w.p3.toNat ≤ 512 ∧
        1 ≤ w.p4.toNat ∧ w.p4.toNat ≤ 128 ∧ w.p2.toNat + w.p4.toNat ≤ 128 := by
  rw [Bool.and_eq_true, portOfWord_isSome_iff, rectangleInRange_iff]

theorem copyRange_iff (w : ParameterWords) :
    ((portOfWord w.p0).isSome && (portOfWord w.p3).isSome &&
        rectangleInRange w.p1.toNat w.p2.toNat (lowHalf w.p6) (highHalf w.p6) &&
        rectangleInRange w.p4.toNat w.p5.toNat (lowHalf w.p6) (highHalf w.p6)) = true ↔
      w.p0.toNat < 4 ∧ w.p3.toNat < 4 ∧ w.p1.toNat < 512 ∧ w.p2.toNat < 128 ∧ w.p4.toNat < 512 ∧
        w.p5.toNat < 128 ∧ 1 ≤ w.p6.toNat % 65536 ∧ w.p6.toNat % 65536 ≤ 512 ∧ 1 ≤ w.p6.toNat / 65536 ∧
        w.p6.toNat / 65536 ≤ 128 ∧ w.p2.toNat + w.p6.toNat / 65536 ≤ 128 ∧ w.p5.toNat + w.p6.toNat / 65536 ≤ 128 := by
  rw [Bool.and_eq_true, Bool.and_eq_true, Bool.and_eq_true, portOfWord_isSome_iff, portOfWord_isSome_iff, rectangleInRange_iff,
    rectangleInRange_iff, lowHalf, highHalf]
  tauto

theorem lineRange_iff (w : ParameterWords) :
    ((portOfWord w.p0).isSome && decide (w.p1.toNat < 512) && decide (w.p2.toNat < 128) &&
        decide (1 ≤ w.p3.toNat) && decide (w.p3.toNat ≤ 512) && decide (-8 ≤ w.p4.toInt) && decide (w.p4.toInt ≤ 8) &&
        decide (-8 ≤ w.p5.toInt) && decide (w.p5.toInt ≤ 8) && !(decide (w.p4.toInt = 0) && decide (w.p5.toInt = 0))) = true ↔
      w.p0.toNat < 4 ∧ w.p1.toNat < 512 ∧ w.p2.toNat < 128 ∧ 1 ≤ w.p3.toNat ∧ w.p3.toNat ≤ 512 ∧
        -8 ≤ w.p4.toInt ∧ w.p4.toInt ≤ 8 ∧ -8 ≤ w.p5.toInt ∧ w.p5.toInt ≤ 8 ∧ ¬ (w.p4 = 0 ∧ w.p5 = 0) := by
  simp only [Bool.and_eq_true, portOfWord_isSome_iff, decide_eq_true_eq, Bool.not_eq_true', Bool.and_eq_false_iff,
    decide_eq_false_iff_not, toInt_eq_zero_iff, not_and_or, and_assoc]

theorem runRange_iff (w : ParameterWords) :
    ((portOfWord w.p0).isSome && decide (w.p1.toNat < 512) && decide (w.p2.toNat < 128) && decide (1 ≤ w.p5.toNat) &&
        decide (w.p5.toNat ≤ 512)) = true ↔
      w.p0.toNat < 4 ∧ w.p1.toNat < 512 ∧ w.p2.toNat < 128 ∧ 1 ≤ w.p5.toNat ∧ w.p5.toNat ≤ 512 := by
  simp only [Bool.and_eq_true, portOfWord_isSome_iff, decide_eq_true_eq, and_assoc]

/-! ## Cell steps (R94 to R101) -/

/-- The part after a cell step of a command, with the maps and the status as that step leaves them: the command's next cell, or its end
(R94, R95). -/
def Device.visited (d : Device) (c : RunningCommand) (m : Smu) (last : Bool) : Device :=
  if last then
    { d with
      smu := (allPorts.filter c.command.holds).foldl Smu.applyLatch
        { m with running := none, status := { m.status with result := .done } }
      notices := { d.notices with flags := d.notices.flags ||| 0x800 } }
  else { d with smu := { m with running := some ⟨c.command, c.visited + 1⟩ } }

/-- A cell step that writes (R94). -/
theorem Device.mapStep_of_writes {d : Device} {c : RunningCommand} {a : Nat} {v : CellState} (running : d.smu.running = some c)
    (reads : c.command.reads c.visited = none) (writes : c.command.writes d.smu.cells c.visited = some (a, v)) :
    d.mapStep = d.visited c
      { d.smu with
        cells := writeCell d.smu.cells a v
        status := { d.smu.status with cellsWritten := d.smu.status.cellsWritten + 1 } }
      (c.command.finished (c.visited + 1)) := by
  simp only [Device.mapStep, running, reads, writes, Device.writeStep, Device.visited]
  split
  · rfl
  · rfl

/-- A cell step that reads (R100). -/
theorem Device.mapStep_of_reads {d : Device} {c : RunningCommand} {a : Nat} {v : CellState} (running : d.smu.running = some c)
    (reads : c.command.reads c.visited = some (a, v)) :
    d.mapStep =
      if readCell d.smu.cells a ≠ v then
        d.visited c { d.smu with status := { d.smu.status with runStop := .different, runStopColumn := a % 512 } } true
      else if c.command.length ≤ c.visited + 1 then
        d.visited c { d.smu with status := { d.smu.status with
          runCount := d.smu.status.runCount + 1, runStop := .limit, runStopColumn := a % 512 } } true
      else
        d.visited c { d.smu with status := { d.smu.status with runCount := d.smu.status.runCount + 1 } } false := by
  have idle : ∀ m : Smu, m.running = some c → (({ d with smu := m } : Device).endMapCommand .done) = d.visited c m true :=
    fun m at_ => by
      simp only [Device.endMapCommand, at_]
      rfl
  simp only [Device.mapStep, running, reads, Device.runStep]
  by_cases same : readCell d.smu.cells a = v
  · rw [if_pos same, if_neg (not_not.2 same)]
    split
    · rfl
    · rfl
  · rw [if_neg same, if_pos same]
    exact idle _ running

theorem Device.mapStep_of_idle {d : Device} (running : d.smu.running = none) : d.mapStep = d := by
  simp only [Device.mapStep, running]

theorem MapCommand.holds_iff (c : MapCommand) (p : Port) :
    c.holds p = true ↔
      match c with
      | .fill s .. => s = p
      | .copy s _ _ t .. => s = p ∨ t = p
      | .line s .. => s = p
      | .run s .. => s = p
      | .clear (some s) => s = p
      | .clear none => True := by
  cases c with
  | clear station => cases station <;> simp [MapCommand.holds]
  | _ => simp [MapCommand.holds]

/-- The end of an aborted command (R95, R102). -/
theorem Device.abortMapCommand_eq {d : Device} {c : RunningCommand} (running : d.smu.running = some c) :
    d.abortMapCommand c =
      { d with
        smu := (allPorts.filter c.command.holds).foldl Smu.applyLatch
          { d.smu with
            running := none
            status := { d.smu.status with
              result := .aborted, runStopColumn := c.abortColumn.getD d.smu.status.runStopColumn } }
        notices := { d.notices with flags := d.notices.flags ||| 0x800 } } := by
  unfold Device.abortMapCommand
  cases c.abortColumn with
  | none =>
    simp only [Device.endMapCommand, running]
    rfl
  | some column =>
    simp only [Device.endMapCommand, Device.onSmu, running]
    rfl

/-- The column an aborted run records (R100): that of the last cell read, or its first. -/
theorem RunningCommand.abortColumn_eq (c : RunningCommand) :
    c.abortColumn =
      match c.command with
      | .run _ column _ left _ _ =>
        some (if c.visited = 0 then column
          else (((column : Int) + (if left then -1 else 1) * ((c.visited : Int) - 1)) % 512).toNat)
      | _ => none := by
  unfold RunningCommand.abortColumn
  cases c.command with
  | run p column row left v limit =>
    refine congrArg some ?_
    by_cases first : c.visited = 0
    · rw [if_pos first, if_pos first]
    · have before : ((c.visited - 1 : Nat) : Int) = (c.visited : Int) - 1 := by omega
      rw [if_neg first, if_neg first, runColumn, lineColumn, before, Int.mul_comm]
  | _ => rfl

/-! ## Runs of one command (R80, R94) -/

theorem run_succ_of_next {M : Host.Core} {s s' : M.State} (h : M.step s = .next s') (k : Nat) : M.run (k + 1) s = M.run k s' := by
  rw [Host.Core.run, h]

/-- A run of one command repeated is its effect repeated. -/
theorem run_replicate (c : Instr) (n : Nat) (d : Device) :
    Sys2Proof.core.run n (State.mk d (List.replicate n c)) = .next (State.mk ((Instr.effect c)^[n] d) []) := by
  induction n generalizing d with
  | zero => rfl
  | succ n ih =>
    have first : Sys2Proof.core.step (State.mk d (List.replicate (n + 1) c)) =
        .next (State.mk (Instr.effect c d) (List.replicate n c)) := exec_eq_effect c d (List.replicate n c)
    rw [Function.iterate_succ_apply, ← ih]
    exact run_succ_of_next first n

/-- The cells after n writes of one state, at the addresses that `at_` lists. -/
def writtenCells (cells : List (Nat × CellState)) (at_ : Nat → Nat) (v : CellState) (n : Nat) : List (Nat × CellState) :=
  match n with
  | 0 => cells
  | n + 1 => writeCell (writtenCells cells at_ v n) (at_ n) v

theorem writtenCells_wellFormed {cells : List (Nat × CellState)} (h : cellsWellFormed cells = true) (at_ : Nat → Nat) (v : CellState)
    (n : Nat) : cellsWellFormed (writtenCells cells at_ v n) = true := by
  induction n with
  | zero => exact h
  | succ n ih => exact writeCell_wellFormed _ _ ih

/-- What is read after the writes: the state at each address written, and elsewhere what was read before. -/
theorem readCell_writtenCells {cells : List (Nat × CellState)} (h : cellsWellFormed cells = true) (at_ : Nat → Nat) (v : CellState)
    (n a : Nat) :
    ((∃ k, k < n ∧ a = at_ k) → readCell (writtenCells cells at_ v n) a = v) ∧
      ((∀ k, k < n → a ≠ at_ k) → readCell (writtenCells cells at_ v n) a = readCell cells a) := by
  induction n with
  | zero => exact ⟨fun ⟨k, low, _⟩ => absurd low (Nat.not_lt_zero k), fun _ => rfl⟩
  | succ n ih =>
    obtain ⟨written, kept⟩ := ih
    rw [writtenCells, readCell_writeCell (writtenCells_wellFormed h at_ v n)]
    refine ⟨fun ⟨k, low, here⟩ => ?_, fun none_ => ?_⟩
    · by_cases last : a = at_ n
      · rw [if_pos last]
      · rw [if_neg last]
        refine written ⟨k, ?_, here⟩
        have other : k ≠ n := fun same => last (same ▸ here)
        omega
    · rw [if_neg (none_ n (Nat.lt_succ_self n))]
      exact kept fun k low => none_ k (Nat.lt_succ_of_lt low)

/-! ## A fill taken to its end (R96) -/

/-- The cell that step k of a fill writes. -/
def fillCell (p : Port) (c r w k : Nat) : Nat := 65536 * p.val + (r + k / w) * 512 + (c + k % w) % 512

/-- The part in a fill that has visited k cells. -/
def Device.filling (d : Device) (p : Port) (c r w h : Nat) (v : CellState) (k : Nat) : Device :=
  { d with smu := { d.smu with
      cells := writtenCells d.smu.cells (fillCell p c r w) v k
      running := some ⟨.fill p c r w h v, k⟩
      status := { d.smu.status with cellsWritten := d.smu.status.cellsWritten + k } } }

theorem Device.mapStep_filling (d : Device) (p : Port) (c r w h : Nat) (v : CellState) (k : Nat) :
    (d.filling p c r w h v k).mapStep =
      (d.filling p c r w h v k).visited ⟨.fill p c r w h v, k⟩
        { (d.filling p c r w h v k).smu with
          cells := writtenCells d.smu.cells (fillCell p c r w) v (k + 1)
          status := { d.smu.status with cellsWritten := d.smu.status.cellsWritten + (k + 1) } }
        (decide (w * h ≤ k + 1)) := by
  have finished : (MapCommand.fill p c r w h v).finished (k + 1) = decide (w * h ≤ k + 1) := Bool.or_false _
  rw [Device.mapStep_of_writes (c := ⟨.fill p c r w h v, k⟩) (a := fillCell p c r w k) (v := v) rfl rfl rfl]
  exact congrArg (Device.visited _ _ _) finished

theorem Device.mapStep_iterate_filling (d : Device) (p : Port) (c r w h : Nat) (v : CellState) (n : Nat) (more : n < w * h) :
    Device.mapStep^[n] (d.filling p c r w h v 0) = d.filling p c r w h v n := by
  induction n with
  | zero => rfl
  | succ n ih =>
    rw [Function.iterate_succ_apply', ih (by omega), Device.mapStep_filling, decide_eq_false (by omega)]
    rfl

theorem holds_filter_fill (p : Port) (c r w h : Nat) (v : CellState) :
    allPorts.filter (MapCommand.fill p c r w h v).holds = [p] := by fin_cases p <;> rfl

theorem Smu.applyLatch_of_none {m : Smu} {p : Port} (empty : m.latches.get p = none) : m.applyLatch p = m := by
  simp only [Smu.applyLatch, empty]

/-! ## The sweep taken to its end (R80) -/

theorem Device.sweepStep_of_some {d : Device} {a : Nat} (sweep : d.smu.sweep = some a) :
    d.sweepStep =
      { d with smu := { d.smu with
          cells := writeCell d.smu.cells a .unknown
          sweep := if a + 1 < 262144 then some (a + 1) else none } } := by
  simp only [Device.sweepStep, sweep]
  rfl

theorem Device.sweepStep_of_none {d : Device} (sweep : d.smu.sweep = none) : d.sweepStep = d := by
  simp only [Device.sweepStep, sweep]

/-- The part with the first n cells swept. -/
def Device.swept (d : Device) (n : Nat) : Device :=
  { d with smu := { d.smu with
      cells := writtenCells d.smu.cells id .unknown n
      sweep := if n < 262144 then some n else none } }

theorem Device.sweepStep_iterate {d : Device} (sweep : d.smu.sweep = some 0) (n : Nat) (inside : n ≤ 262144) :
    Device.sweepStep^[n] d = d.swept n := by
  induction n with
  | zero =>
    show d = { d with smu := { d.smu with sweep := some 0 } }
    rw [← sweep]
  | succ n ih =>
    have standing : (d.swept n).smu.sweep = some n := if_pos (by omega)
    rw [Function.iterate_succ_apply', ih (by omega), Device.sweepStep_of_some standing]
    rfl

theorem readCell_of_not_listed {cells : List (Nat × CellState)} {a : Nat} (none_ : ∀ c ∈ cells, c.1 ≠ a) :
    readCell cells a = .unknown := by
  induction cells with
  | nil => rfl
  | cons c rest ih =>
    obtain ⟨b, v⟩ := c
    rw [readCell, if_neg fun at_ => none_ (b, v) List.mem_cons_self at_.symm]
    exact ih fun c mem => none_ c (List.mem_cons_of_mem _ mem)

/-- The swept maps are empty: every cell reads UNKNOWN, and equal maps are equal lists (R80). -/
theorem swept_cells {m : Smu} (h : m.Kept) : writtenCells m.cells id .unknown 262144 = [] := by
  refine cells_ext (writtenCells_wellFormed h.wellFormed id .unknown 262144) rfl fun a => ?_
  obtain ⟨written, kept⟩ := readCell_writtenCells h.wellFormed id .unknown 262144 a
  by_cases inside : a < 262144
  · exact written ⟨a, inside, rfl⟩
  · refine (kept fun k low at_ => inside (at_ ▸ low)).trans (readCell_of_not_listed fun c mem at_ => ?_)
    have low : c.1 < 262144 := h.inside c mem
    omega

end Sys2Proof.Machine

namespace Sys2Proof

open Machine

/-- Settles O26. -/
theorem mapCommandsJudged : Obligations.MapCommandsJudged := by
  refine ⟨?_, ?_⟩
  · intro d q free running sweep w accepted
    have take : ∀ {i : Instr} {code : Byte} {range : Bool} {command : Option MapCommand} {c : MapCommand}
        (judge : Device → CommandResult), Instr.effect i d = d.command code judge → judge d = d.judgeMap range command →
        range = true → command = some c → exec i ⟨d, q⟩ = accepted code c c.kind := fun judge run judged good named =>
      exec_of_taken run free (judged.trans (Device.judgeMap_of_good running sweep good named)) q
    refine ⟨?_, ?_, ?_, ?_, ?_, ?_⟩
    · intro p v port cell column row wide narrow high low fits
      refine take Device.judgeMapFill rfl rfl ((fillRange_iff w).2 ⟨by omega, column, row, wide, narrow, high, low, fits⟩) ?_
      rw [(portOfWord_eq_some w.p0 p).2 port, (cellOfWord_eq_some w.p5 v).2 cell]
      rfl
    · intro s t columnsDown rowsDown source target orders column row column' row' wide narrow high low fits fits'
      refine take Device.judgeMapCopy rfl rfl ((copyRange_iff w).2 ⟨by omega, by omega, column, row, column', row', wide, narrow, high,
        low, fits, fits'⟩) ?_
      have bits : columnsDown.toNat ≤ 1 ∧ rowsDown.toNat ≤ 1 := ⟨Bool.toNat_le _, Bool.toNat_le _⟩
      have columns : lowHalf w.p7 = columnsDown.toNat := by rw [lowHalf]; omega
      have rows : highHalf w.p7 = rowsDown.toNat := by rw [highHalf]; omega
      rw [(portOfWord_eq_some w.p0 s).2 source, (portOfWord_eq_some w.p3 t).2 target, columns, rows, orderOfNat_toNat, orderOfNat_toNat]
      rfl
    · intro p v port cell column row some_ count left right up down moves
      refine take Device.judgeMapLine rfl rfl ((lineRange_iff w).2 ⟨by omega, column, row, some_, count, left, right, up, down, moves⟩) ?_
      rw [(portOfWord_eq_some w.p0 p).2 port, (cellOfWord_eq_some w.p6 v).2 cell]
      rfl
    · intro p left v port direction cell column row some_ limit
      refine take Device.judgeMapRun rfl rfl ((runRange_iff w).2 ⟨by omega, column, row, some_, limit⟩) ?_
      rw [(portOfWord_eq_some w.p0 p).2 port, (cellOfWord_eq_some w.p4 v).2 cell, direction, orderOfNat_toNat]
      rfl
    · intro p port
      have low : w.p0.toNat ≤ 4 := by omega
      exact take Device.judgeMapClear rfl d.judgeMapClear_eq (decide_eq_true low) (by rw [(portOfWord_eq_some w.p0 p).2 port])
    · intro all
      refine take Device.judgeMapClear rfl d.judgeMapClear_eq (decide_eq_true (le_of_eq all)) (by rw [(portOfWord_eq_none w.p0).2 (by omega)])
  · intro d q free w refused
    have refuse : ∀ {i : Instr} {code : Byte} {reason : RefusalReason} (judge : Device → CommandResult),
        Instr.effect i d = d.command code judge → judge d = .refused reason → exec i ⟨d, q⟩ = refused code reason :=
      fun judge run judged => exec_of_refused run free judged q
    refine ⟨fun busy => ⟨refuse Device.judgeMapFill rfl (Device.judgeMap_of_busy _ _ busy),
      refuse Device.judgeMapCopy rfl (Device.judgeMap_of_busy _ _ busy),
      refuse Device.judgeMapLine rfl (Device.judgeMap_of_busy _ _ busy),
      refuse Device.judgeMapRun rfl (Device.judgeMap_of_busy _ _ busy),
      refuse Device.judgeMapClear rfl (d.judgeMapClear_eq.trans (Device.judgeMap_of_busy _ _ busy))⟩, fun running sweep => ⟨?_, ?_, ?_, ?_, ?_⟩⟩
    · intro good
      refine ⟨fun bad => refuse Device.judgeMapFill rfl (Device.judgeMap_of_range _ running sweep (fillRange_iff w) bad),
        fun is high => refuse Device.judgeMapFill rfl (Device.judgeMap_of_value running sweep ((fillRange_iff w).2 is) ?_)⟩
      simp [show d.sbi.parameters = w from rfl, cellOfWord_eq_none high]
    · intro width height good
      refine ⟨fun bad => refuse Device.judgeMapCopy rfl (Device.judgeMap_of_range _ running sweep (copyRange_iff w) bad),
        fun is high => refuse Device.judgeMapCopy rfl (Device.judgeMap_of_value running sweep ((copyRange_iff w).2 is) ?_)⟩
      rcases high with columns | rows
      · simp [show d.sbi.parameters = w from rfl, orderOfNat_eq_none (show 1 < lowHalf w.p7 from columns)]
      · simp [show d.sbi.parameters = w from rfl, orderOfNat_eq_none (show 1 < highHalf w.p7 from rows)]
    · intro good
      refine ⟨fun bad => refuse Device.judgeMapLine rfl (Device.judgeMap_of_range _ running sweep (lineRange_iff w) bad),
        fun is high => refuse Device.judgeMapLine rfl (Device.judgeMap_of_value running sweep ((lineRange_iff w).2 is) ?_)⟩
      simp [show d.sbi.parameters = w from rfl, cellOfWord_eq_none high]
    · intro good
      refine ⟨fun bad => refuse Device.judgeMapRun rfl (Device.judgeMap_of_range _ running sweep (runRange_iff w) bad),
        fun is high => refuse Device.judgeMapRun rfl (Device.judgeMap_of_value running sweep ((runRange_iff w).2 is) ?_)⟩
      rcases high with direction | cell
      · simp [show d.sbi.parameters = w from rfl, orderOfNat_eq_none direction]
      · simp [show d.sbi.parameters = w from rfl, cellOfWord_eq_none cell]
    · intro high
      exact refuse Device.judgeMapClear rfl
        (d.judgeMapClear_eq.trans (Device.judgeMap_of_range _ running sweep decide_eq_true_iff (Nat.not_le.2 high)))

/-- Settles O27: each kind's step by what it writes or reads, and its end. -/
theorem mapCellStepsAndEnds : Obligations.MapCellStepsAndEnds := by
  refine ⟨fun d q => ⟨?_, fun idle => congrArg (fun e => Host.Outcome.next (State.mk e q)) (Device.mapStep_of_idle idle),
    MapCommand.holds_iff⟩, ?_⟩
  · intro c running k cells visited wrote
    have writes : ∀ {a v last}, c.command.reads k = none → c.command.writes cells k = some (a, v) →
        c.command.finished (k + 1) = last → exec .mapCellStep ⟨d, q⟩ = wrote a v last := by
      rintro a v last reads write rfl
      exact congrArg (fun e => Host.Outcome.next (State.mk e q)) (Device.mapStep_of_writes running reads write)
    have whole : ∀ n : Nat, (decide (n ≤ k + 1) || false) = decide (n ≤ k + 1) := fun n => Bool.or_false _
    refine ⟨fun p column row width height v command => ?_, ?_, ?_, fun p command => ?_, fun command => ?_, ?_⟩
    · exact writes (by rw [command]; rfl) (by rw [command]; rfl) (by rw [command]; exact whole _)
    · intro s sc sr t dc dr width height columnsDown rowsDown command i j
      exact writes (by rw [command]; rfl) (by rw [command]; rfl) (by rw [command]; exact whole _)
    · intro p column row count columnStep rowStep v command here next
      refine writes (by rw [command]; rfl) (by rw [command]; rfl) ?_
      have off : (!rowOnMap (lineRow row rowStep (k + 1))) = (decide (next < 0) || decide (127 < next)) := by
        have at_ : lineRow row rowStep (k + 1) = next := by simp [lineRow, next]
        rw [at_, Bool.eq_iff_iff, Bool.not_eq_true', Bool.eq_false_iff, Ne, rowOnMap_iff, Bool.or_eq_true, decide_eq_true_eq,
          decide_eq_true_eq]
        omega
      rw [command, Bool.or_assoc, ← off]
      rfl
    · exact writes (by rw [command]; rfl) (by rw [command]; rfl) (by rw [command]; exact whole _)
    · exact writes (by rw [command]; rfl) (by rw [command]; rfl) (by rw [command]; exact whole _)
    · intro p column row left v limit command here ran
      have reads : c.command.reads c.visited = some (65536 * p.val + row * 512 + here, v) := by rw [command]; rfl
      have at_ : (65536 * p.val + row * 512 + here) % 512 = here := by
        have low : here < 512 := by simp only [here]; omega
        omega
      have length : c.command.length = limit := by rw [command]; rfl
      refine congrArg (fun e => Host.Outcome.next (State.mk e q)) ((Device.mapStep_of_reads running reads).trans ?_)
      rw [at_, length]
      rfl
  · intro d q free
    refine ⟨?_, fun idle => ?_, fun m p => ?_⟩
    · intro c running stop ended
      have judged : d.judgeMapAbort = .taken (d.abortMapCommand c) := by simp only [Device.judgeMapAbort, running]
      rw [exec_of_taken (judge := Device.judgeMapAbort) (code := 0x25) rfl free judged, Device.abortMapCommand_eq running]
      have column : c.abortColumn.getD d.smu.status.runStopColumn = stop := by
        rw [RunningCommand.abortColumn_eq]
        simp only [stop]
        cases c.command <;> rfl
      rw [column]
    · have judged : d.judgeMapAbort = .refused .state := by simp only [Device.judgeMapAbort, idle]
      exact exec_of_refused (judge := Device.judgeMapAbort) rfl free judged q
    · unfold Smu.applyLatch
      cases m.latches.get p <;> rfl

/-- Settles O28: the run is the step repeated, each writing the next cell of the rectangle. -/
theorem mapFillWritesRectangle : Obligations.MapFillWritesRectangle := by
  intro d p c r w h v kept running latch column wide narrow high fits cell
  have area : 0 < w * h := Nat.mul_pos wide high
  have start : d = d.filling p c r w h v 0 := by
    show d = { d with smu := { d.smu with running := some ⟨.fill p c r w h v, 0⟩ } }
    rw [← running]
  obtain ⟨n, all⟩ : ∃ n, w * h = n + 1 := ⟨w * h - 1, by omega⟩
  refine ⟨writtenCells d.smu.cells (fillCell p c r w) v (w * h), ?_, fun i j left low => ?_, fun a outside => ?_⟩
  · rw [run_replicate]
    refine congrArg (fun e => Host.Outcome.next (State.mk e [])) ?_
    show Device.mapStep^[w * h] d = _
    have last : Device.mapStep^[w * h] d = (d.filling p c r w h v n).mapStep := by
      rw [all, Function.iterate_succ_apply']
      exact congrArg Device.mapStep ((congrArg Device.mapStep^[n] start).trans
        (Device.mapStep_iterate_filling d p c r w h v n (by omega)))
    rw [last, Device.mapStep_filling, decide_eq_true (by omega), Device.visited, if_pos rfl, holds_filter_fill, all]
    simp only [List.foldl_cons, List.foldl_nil]
    rw [Smu.applyLatch_of_none (by exact latch)]
    rfl
  · refine (readCell_writtenCells kept.wellFormed (fillCell p c r w) v (w * h) (cell i j)).1 ⟨j * w + i, ?_, ?_⟩
    · calc j * w + i < j * w + w := by omega
        _ = (j + 1) * w := by ring
        _ ≤ h * w := Nat.mul_le_mul_right w low
        _ = w * h := Nat.mul_comm h w
    · have row : (j * w + i) / w = j := by rw [Nat.mul_comm, Nat.mul_add_div wide, Nat.div_eq_of_lt left, Nat.add_zero]
      have offset : (j * w + i) % w = i := by rw [Nat.mul_comm, Nat.mul_add_mod, Nat.mod_eq_of_lt left]
      rw [fillCell, row, offset]
  · refine (readCell_writtenCells kept.wellFormed (fillCell p c r w) v (w * h) a).2 fun k low => ?_
    obtain ⟨row, offset⟩ := rectangle_offsets low
    exact outside (k % w) (k / w) offset row

/-- Settles O29. -/
theorem sweepClearsEveryCell : Obligations.SweepClearsEveryCell := by
  refine ⟨fun d kept sweep => ?_, fun d q a sweep => ?_,
    fun d q sweep => congrArg (fun e => Host.Outcome.next (State.mk e q)) (Device.sweepStep_of_none sweep)⟩
  · rw [run_replicate]
    refine congrArg (fun e => Host.Outcome.next (State.mk e [])) ?_
    show Device.sweepStep^[262144] d = _
    rw [Device.sweepStep_iterate sweep 262144 (le_refl _), Device.swept, swept_cells kept, if_neg (lt_irrefl _)]
  · refine congrArg (fun e => Host.Outcome.next (State.mk e q)) ((Device.sweepStep_of_some sweep).trans ?_)
    have ends : (if a + 1 < 262144 then some (a + 1) else none) = if a = 262143 ∨ 262143 < a then none else some (a + 1) := by
      split_ifs with more last last
      · omega
      · rfl
      · rfl
      · omega
    rw [ends]

end Sys2Proof
end

section
/-! PROOFS. Learning, point lookups and path scans: O30, O32, O33. -/

namespace Sys2Proof.Machine

/-! ## The first entry of a list that a test picks -/

theorem changeFirst_append {α : Type} {test : α → Bool} (f : α → α) {before : List α} {a : α} (none_ : ∀ o ∈ before, test o = false)
    (picked : test a = true) (after : List α) : changeFirst test f (before ++ a :: after) = before ++ f a :: after := by
  induction before with
  | nil => exact if_pos picked
  | cons o before ih =>
    have other : ¬ test o = true := by rw [none_ o List.mem_cons_self]; decide
    exact (if_neg other).trans (congrArg (o :: ·) (ih fun b mem => none_ b (List.mem_cons_of_mem _ mem)))

theorem changeFirst_of_none {α : Type} {test : α → Bool} (f : α → α) {l : List α} (none_ : ∀ o ∈ l, test o = false) :
    changeFirst test f l = l := by
  induction l with
  | nil => rfl
  | cons o l ih =>
    have other : ¬ test o = true := by rw [none_ o List.mem_cons_self]; decide
    exact (if_neg other).trans (congrArg (o :: ·) (ih fun b mem => none_ b (List.mem_cons_of_mem _ mem)))

theorem find?_append_first {α : Type} {test : α → Bool} {before : List α} {a : α} (none_ : ∀ o ∈ before, test o = false)
    (picked : test a = true) (after : List α) : (before ++ a :: after).find? test = some a :=
  List.find?_eq_some_iff_append.2 ⟨picked, before, after, rfl, fun o mem => by simp [none_ o mem]⟩

theorem eraseP_append_first {α : Type} {test : α → Bool} {before : List α} {a : α} (none_ : ∀ o ∈ before, test o = false)
    (picked : test a = true) (after : List α) : (before ++ a :: after).eraseP test = before ++ after := by
  rw [List.eraseP_append_right _ fun o mem => by simp [none_ o mem], List.eraseP_cons_of_pos picked]

/-! ## The cell of a bearing (R78) -/

theorem rowOnMap_eq_false_iff (r : Int) : rowOnMap r = false ↔ r < 0 ∨ 128 ≤ r := by
  rw [Bool.eq_false_iff, Ne, rowOnMap_iff]
  omega

theorem bearingCell_of_off {az el : Half} (p : Port) (off : rowOf el < 0 ∨ 128 ≤ rowOf el) : bearingCell p az el = none :=
  if_neg (by rw [(rowOnMap_eq_false_iff _).2 off]; decide)

theorem bearingCell_of_on {el : Half} (p : Port) (az : Half) (on : ¬ (rowOf el < 0 ∨ 128 ≤ rowOf el)) :
    bearingCell p az el = some (cellAddress p (columnOf az) (rowOf el).toNat) :=
  if_pos ((rowOnMap_iff _).2 (by omega))

/-! ## Learning (R83, R84, R85) -/

theorem Smu.judgeLearning_eq (m : Smu) (learning : Bool) (r : LearnRequest) :
    m.judgeLearning learning r =
      if m.sweep.isSome = true ∨ learning = false ∨ rowOf r.el < 0 ∨ 128 ≤ rowOf r.el then m
      else if m.held r.station then m.latch r
      else
        { m with
          cells := writeCell m.cells (cellAddress r.station (columnOf r.az) (rowOf r.el).toNat)
            (r.event.apply (readCell m.cells (cellAddress r.station (columnOf r.az) (rowOf r.el).toNat))) } := by
  by_cases discarded : m.sweep.isSome = true ∨ learning = false ∨ rowOf r.el < 0 ∨ 128 ≤ rowOf r.el
  · rw [if_pos discarded]
    unfold Smu.judgeLearning
    rcases discarded with sweep | off | off
    · exact if_pos sweep
    · rw [if_pos off]
      exact ite_self m
    · rw [if_pos (bearingCell_of_off r.station off), ite_self, ite_self]
  · rw [if_neg discarded]
    obtain ⟨sweep, discarded⟩ := not_or.1 discarded
    obtain ⟨on, inside⟩ := not_or.1 discarded
    have cell := bearingCell_of_on r.station r.az inside
    rw [Smu.judgeLearning, if_neg sweep, if_neg on, if_neg (by rw [cell]; exact Option.some_ne_none _)]
    simp only [Smu.learn, cell]

theorem Smu.latch_eq (m : Smu) (r : LearnRequest) :
    m.latch r =
      { m with
        latches := m.latches.set r.station (some r)
        learnReplaced :=
          if m.latches.get r.station = none then m.learnReplaced
          else m.learnReplaced.set r.station (countUp (m.learnReplaced.get r.station)) } := by
  unfold Smu.latch
  cases m.latches.get r.station <;> rfl

theorem Device.takeLearning_of_first {d : Device} {before after : List LearnRequest} {r : LearnRequest}
    (queue : d.smu.learnQueue = before ++ r :: after) (first : ∀ o ∈ before, o.source ≠ r.source) :
    d.takeLearning r.source =
      { d with smu := Smu.judgeLearning { d.smu with learnQueue := before ++ after } (d.stations.get r.station).learning r } := by
  have none_ : ∀ o ∈ before, decide (o.source = r.source) = false := fun o mem => decide_eq_false (first o mem)
  have picked : decide (r.source = r.source) = true := decide_eq_true rfl
  have found := find?_append_first (test := fun o : LearnRequest => decide (o.source = r.source)) none_ picked after
  have erased := eraseP_append_first (test := fun o : LearnRequest => decide (o.source = r.source)) none_ picked after
  simp only [Device.takeLearning, queue, found, Device.onSmu, erased]

theorem Device.takeLearning_of_none {d : Device} {source : LearnSource} (none_ : ∀ r ∈ d.smu.learnQueue, r.source ≠ source) :
    d.takeLearning source = d := by
  have found : d.smu.learnQueue.find? (fun r => decide (r.source = source)) = none :=
    List.find?_eq_none.2 fun r mem => by simpa using none_ r mem
  simp only [Device.takeLearning, found]

/-! ## Point lookups (R88, R120) -/

theorem Smu.lookup_eq (m : Smu) (p : Port) (az el : Half) :
    m.lookup p az el =
      if m.sweep.isSome = true ∨ rowOf el < 0 ∨ 128 ≤ rowOf el then .unknown
      else readCell m.cells (cellAddress p (columnOf az) (rowOf el).toNat) := by
  by_cases off : rowOf el < 0 ∨ 128 ≤ rowOf el
  · simp only [Smu.lookup, bearingCell_of_off p off, ite_self]
    rw [if_pos (.inr off)]
  · simp only [Smu.lookup, bearingCell_of_on p az off]
    exact if_congr (by simp [off]) rfl rfl

theorem isNone_eq_false {α : Type} {o : Option α} (h : o ≠ none) : o.isNone = false := by
  cases o with
  | none => exact absurd rfl h
  | some a => rfl

theorem Device.takeLookup_of_first {d : Device} {p : Port} {before after : List Lookup} {l : Lookup}
    (queue : d.smu.lookups = before ++ l :: after) (station : l.station = p) (waits : l.result = none)
    (first : ∀ o ∈ before, o.station = p → o.result ≠ none) :
    d.takeLookup p =
      { d with smu := { d.smu with
          lookups := before ++ { l with result := some (d.smu.lookup p l.az l.el) } :: after } } := by
  have none_ : ∀ o ∈ before, (decide (o.station = p) && o.result.isNone) = false := by
    intro o mem
    by_cases at_ : o.station = p
    · simp only [at_, isNone_eq_false (first o mem at_), Bool.and_false]
    · simp [at_]
  have picked : (decide (l.station = p) && l.result.isNone) = true := by simp [station, waits]
  simp only [Device.takeLookup, Device.onSmu, queue]
  rw [changeFirst_append _ none_ picked]

theorem Device.takeLookup_of_none {d : Device} {p : Port} (none_ : ∀ l ∈ d.smu.lookups, l.station = p → l.result ≠ none) :
    d.takeLookup p = d := by
  have taken : ∀ o ∈ d.smu.lookups, (decide (o.station = p) && o.result.isNone) = false := by
    intro o mem
    by_cases at_ : o.station = p
    · simp only [at_, isNone_eq_false (none_ o mem at_), Bool.and_false]
    · simp [at_]
  simp only [Device.takeLookup, Device.onSmu]
  rw [changeFirst_of_none _ taken]

theorem Device.storeLookup_of_first {d : Device} {p : Port} {before after : List Lookup} {l : Lookup} {cell : CellState}
    (queue : d.smu.lookups = before ++ l :: after) (station : l.station = p) (result : l.result = some cell)
    (first : ∀ o ∈ before, o.station ≠ p) :
    d.storeLookup p =
      { d with
        smu := { d.smu with lookups := before ++ after }
        stations :=
          if l.forgotten then d.stations
          else d.stations.set p { d.stations.get p with answer := some ⟨l.tag, l.reach, l.az, l.el, cell, l.time⟩ } } := by
  have none_ : ∀ o ∈ before, decide (o.station = p) = false := fun o mem => decide_eq_false (first o mem)
  have picked : decide (l.station = p) = true := decide_eq_true station
  have found := find?_append_first (test := fun o : Lookup => decide (o.station = p)) none_ picked after
  have erased := eraseP_append_first (test := fun o : Lookup => decide (o.station = p)) none_ picked after
  simp only [Device.storeLookup, queue, found, result, Device.onSmu, erased]
  split
  · rfl
  · rfl

theorem Device.storeLookup_of_none {d : Device} {p : Port}
    (none_ : ∀ l ∈ d.smu.lookups.find? (fun l => decide (l.station = p)), l.result = none) : d.storeLookup p = d := by
  unfold Device.storeLookup
  split
  · next l found => rw [none_ l found]
  · rfl

/-! ## Path scans (R89, R90, R91) -/

/-- A step of a scan that it examines: from step k on, at most `fuel` of them, as far as the first step off the map and the first
blocked one (R90). -/
def Examined (inside blocked : Nat → Prop) (k fuel j : Nat) : Prop :=
  k ≤ j ∧ j < k + fuel ∧ (∀ i, k ≤ i → i ≤ j → inside i) ∧ ∀ i, k ≤ i → i < j → ¬ blocked i

theorem examined_zero (inside blocked : Nat → Prop) (k j : Nat) : ¬ Examined inside blocked k 0 j := by
  rintro ⟨low, high, -⟩
  omega

/-- The steps examined from k on: k itself where it is on the map, and beyond it those examined from the next on, unless k is blocked. -/
theorem examined_succ {inside blocked : Nat → Prop} {k fuel j : Nat} :
    Examined inside blocked k (fuel + 1) j ↔ inside k ∧ (j = k ∨ ¬ blocked k ∧ Examined inside blocked (k + 1) fuel j) := by
  constructor
  · rintro ⟨low, high, on, free⟩
    refine ⟨on k (le_refl k) low, ?_⟩
    rcases Nat.eq_or_lt_of_le low with rfl | more
    · exact .inl rfl
    · exact .inr ⟨free k (le_refl k) more, more, by omega, fun i above => on i (by omega), fun i above => free i (by omega)⟩
  · rintro ⟨here, rfl | ⟨clear_, low, high, on, free⟩⟩
    · exact ⟨le_refl _, by omega, fun i above below => by rwa [Nat.le_antisymm below above], fun i above below => by omega⟩
    · refine ⟨by omega, by omega, fun i above below => ?_, fun i above below => ?_⟩
      · rcases Nat.eq_or_lt_of_le above with rfl | more
        · exact here
        · exact on i more below
      · rcases Nat.eq_or_lt_of_le above with rfl | more
        · exact clear_
        · exact free i more below

theorem examined_finite (inside blocked : Nat → Prop) (k fuel : Nat) (more : Nat → Prop) :
    {j | Examined inside blocked k fuel j ∧ more j}.Finite :=
  (Set.finite_lt_nat (k + fuel)).subset fun _ h => h.1.2.1

section Scan

variable (cells : List (Nat × CellState)) (p : Port) (c0 : Nat) (r0 dc dr : Int) (n : Nat)

/-- The row of step k of a scan, possibly off the map (R90). -/
def scanRow (k : Nat) : Int := r0 + roundDiv (k * dr) n

/-- The cell state at step k of a scan (R90). -/
def scanCell (k : Nat) : CellState :=
  readCell cells (cellAddress p (((c0 : Int) + roundDiv (k * dc) n) % 512).toNat (scanRow r0 dr n k).toNat)

/-- Whether step k of a scan is on the map. -/
def scanInside (k : Nat) : Prop := 0 ≤ scanRow r0 dr n k ∧ scanRow r0 dr n k ≤ 127

/-- Whether step k of a scan is an obstacle (R90). -/
def scanBlocked (k : Nat) : Prop := scanCell cells p c0 r0 dc dr n k = .blocked ∨ scanCell cells p c0 r0 dc dr n k = .fixedBlocked

/-- One step of a scan, by its cell. -/
theorem scanSteps_succ (fuel k suspect : Nat) :
    ((¬ scanInside r0 dr n k → scanSteps cells p c0 r0 dc dr n (fuel + 1) k suspect = (none, suspect)) ∧
      (scanInside r0 dr n k → scanBlocked cells p c0 r0 dc dr n k →
        scanSteps cells p c0 r0 dc dr n (fuel + 1) k suspect = (some k, suspect)) ∧
      (scanInside r0 dr n k → ¬ scanBlocked cells p c0 r0 dc dr n k →
        scanSteps cells p c0 r0 dc dr n (fuel + 1) k suspect =
          scanSteps cells p c0 r0 dc dr n fuel (k + 1)
            (suspect + if scanCell cells p c0 r0 dc dr n k = .suspect then 1 else 0))) := by
  have unfolded : scanSteps cells p c0 r0 dc dr n (fuel + 1) k suspect =
      if rowOnMap (scanRow r0 dr n k) then
        match scanCell cells p c0 r0 dc dr n k with
        | .blocked | .fixedBlocked => (some k, suspect)
        | .suspect => scanSteps cells p c0 r0 dc dr n fuel (k + 1) (suspect + 1)
        | _ => scanSteps cells p c0 r0 dc dr n fuel (k + 1) suspect
      else (none, suspect) := rfl
  rw [unfolded]
  refine ⟨fun off => if_neg fun on => off ((rowOnMap_iff _).1 on), fun on blocked => ?_, fun on clear_ => ?_⟩ <;>
    rw [if_pos ((rowOnMap_iff _).2 on)]
  · rcases blocked with at_ | at_ <;> rw [at_]
  · unfold scanBlocked at clear_
    cases cell : scanCell cells p c0 r0 dc dr n k <;> simp [cell] at clear_ ⊢

/-- What a scan finds: the obstacle among the steps it examines, and the number of suspects among them (R90). -/
theorem scanSteps_found (fuel k suspect : Nat) :
    (∀ j, (scanSteps cells p c0 r0 dc dr n fuel k suspect).1 = some j ↔
      Examined (scanInside r0 dr n) (scanBlocked cells p c0 r0 dc dr n) k fuel j ∧ scanBlocked cells p c0 r0 dc dr n j) ∧
    (scanSteps cells p c0 r0 dc dr n fuel k suspect).2 = suspect +
      Set.ncard {j | Examined (scanInside r0 dr n) (scanBlocked cells p c0 r0 dc dr n) k fuel j ∧
        scanCell cells p c0 r0 dc dr n j = .suspect} := by
  induction fuel generalizing k suspect with
  | zero => exact ⟨fun j => by simp [scanSteps, examined_zero], by simp [scanSteps, examined_zero]⟩
  | succ fuel ih =>
    obtain ⟨off, hit, on⟩ := scanSteps_succ cells p c0 r0 dc dr n fuel k suspect
    simp only [examined_succ]
    by_cases inside : scanInside r0 dr n k
    · by_cases blocked : scanBlocked cells p c0 r0 dc dr n k
      · rw [hit inside blocked]
        have none_ : {j | j = k ∧ scanCell cells p c0 r0 dc dr n j = .suspect} = ∅ := by
          refine Set.eq_empty_of_forall_notMem fun j ⟨at_, suspected⟩ => ?_
          subst at_
          rcases blocked with h | h <;> exact absurd (suspected.symm.trans h) (by decide)
        refine ⟨fun j => ?_, by simp [inside, blocked, none_]⟩
        simp only [inside, blocked, not_true, false_and, or_false, true_and, Option.some.injEq]
        exact ⟨fun at_ => ⟨at_.symm, at_ ▸ blocked⟩, fun h => h.1.symm⟩
      · rw [on inside blocked]
        obtain ⟨obstacle, count⟩ := ih (k + 1) (suspect + if scanCell cells p c0 r0 dc dr n k = .suspect then 1 else 0)
        refine ⟨fun j => ?_, ?_⟩
        · rw [obstacle j]
          simp only [inside, blocked, not_false_iff, true_and]
          constructor
          · exact fun ⟨examined, at_⟩ => ⟨.inr examined, at_⟩
          · rintro ⟨rfl | examined, at_⟩
            · exact absurd at_ blocked
            · exact ⟨examined, at_⟩
        · rw [count]
          simp only [inside, blocked, not_false_iff, true_and]
          have fresh : ¬ Examined (scanInside r0 dr n) (scanBlocked cells p c0 r0 dc dr n) (k + 1) fuel k := fun h => by
            have := h.1
            omega
          by_cases suspected : scanCell cells p c0 r0 dc dr n k = .suspect
          · have grown : {j | (j = k ∨ Examined (scanInside r0 dr n) (scanBlocked cells p c0 r0 dc dr n) (k + 1) fuel j) ∧
                scanCell cells p c0 r0 dc dr n j = .suspect} =
                insert k {j | Examined (scanInside r0 dr n) (scanBlocked cells p c0 r0 dc dr n) (k + 1) fuel j ∧
                  scanCell cells p c0 r0 dc dr n j = .suspect} := by
              ext j
              simp only [Set.mem_ofPred_eq, Set.mem_insert_iff]
              constructor
              · rintro ⟨rfl | examined, at_⟩
                · exact .inl rfl
                · exact .inr ⟨examined, at_⟩
              · rintro (rfl | ⟨examined, at_⟩)
                · exact ⟨.inl rfl, suspected⟩
                · exact ⟨.inr examined, at_⟩
            rw [grown, Set.ncard_insert_of_notMem (fun h => fresh h.1) (examined_finite _ _ _ _ _), if_pos suspected]
            omega
          · have same : {j | (j = k ∨ Examined (scanInside r0 dr n) (scanBlocked cells p c0 r0 dc dr n) (k + 1) fuel j) ∧
                scanCell cells p c0 r0 dc dr n j = .suspect} =
                {j | Examined (scanInside r0 dr n) (scanBlocked cells p c0 r0 dc dr n) (k + 1) fuel j ∧
                  scanCell cells p c0 r0 dc dr n j = .suspect} := by
              ext j
              simp only [Set.mem_ofPred_eq]
              constructor
              · rintro ⟨rfl | examined, at_⟩
                · exact absurd at_ suspected
                · exact ⟨examined, at_⟩
              · exact fun ⟨examined, at_⟩ => ⟨.inr examined, at_⟩
            rw [same, if_neg suspected, Nat.add_zero]
    · rw [off inside]
      exact ⟨fun j => by simp [inside], by simp [inside]⟩

end Scan

theorem Device.takeScan_of_first {d : Device} {before after : List Scan} {s : Scan} (queue : d.smu.scans = before ++ s :: after)
    (first : ∀ o ∈ before, o.result ≠ none) (waits : s.result = none) :
    d.takeScan = { d with smu := { d.smu with scans := before ++ { s with result := some (d.smu.scan s) } :: after } } := by
  have none_ : ∀ o ∈ before, o.result.isNone = false := fun o mem => isNone_eq_false (first o mem)
  have picked : s.result.isNone = true := by simp [waits]
  simp only [Device.takeScan, Device.onSmu, queue]
  rw [changeFirst_append _ none_ picked]

theorem Device.takeScan_of_none {d : Device} (none_ : ∀ s ∈ d.smu.scans, s.result ≠ none) : d.takeScan = d := by
  have taken : ∀ s ∈ d.smu.scans, s.result.isNone = false := fun s mem => isNone_eq_false (none_ s mem)
  simp only [Device.takeScan, Device.onSmu]
  rw [changeFirst_of_none _ taken]

end Sys2Proof.Machine

namespace Sys2Proof

open Machine

/-- Settles O30. -/
theorem learningChangesCell : Obligations.LearningChangesCell := by
  refine ⟨fun d q before after r queue first => ?_,
    fun d q source none_ => congrArg (fun e => Host.Outcome.next (State.mk e q)) (Device.takeLearning_of_none none_), fun c => ?_⟩
  · intro row a taken
    refine congrArg (fun e => Host.Outcome.next (State.mk e q)) ((Device.takeLearning_of_first queue first).trans ?_)
    rw [Smu.judgeLearning_eq, Smu.latch_eq]
    rfl
  · cases c <;> exact ⟨rfl, rfl, rfl⟩

/-- Settles O32. -/
theorem lookupsStoreCellState : Obligations.LookupsStoreCellState := by
  refine ⟨fun d q p before after l queue station => ⟨fun waits first => ?_, fun cell result first =>
      congrArg (fun e => Host.Outcome.next (State.mk e q)) (Device.storeLookup_of_first queue station result first)⟩,
    fun d q p => ⟨fun none_ => congrArg (fun e => Host.Outcome.next (State.mk e q)) (Device.takeLookup_of_none none_),
      fun none_ => congrArg (fun e => Host.Outcome.next (State.mk e q)) (Device.storeLookup_of_none none_)⟩⟩
  intro row cell
  refine congrArg (fun e => Host.Outcome.next (State.mk e q)) ((Device.takeLookup_of_first queue station waits first).trans ?_)
  rw [Smu.lookup_eq]
  rfl

/-- Settles O33: the obstacle and the suspects are those of the steps examined from the first on. -/
theorem scanFindsFirstObstacle : Obligations.ScanFindsFirstObstacle := by
  refine ⟨?_, ?_, fun d q none_ => congrArg (fun e => Host.Outcome.next (State.mk e q)) (Device.takeScan_of_none none_)⟩
  · intro d q before after s queue first waits sweep c0 c1 r0 r1 dc dr n row column cell blocked examined low high
    refine ⟨d.smu.scan s, congrArg (fun e => Host.Outcome.next (State.mk e q)) (Device.takeScan_of_first queue first waits), ?_⟩
    have scanned : d.smu.scan s =
        ⟨(scanSteps d.smu.cells s.port (columnOf s.startAz) r0 dc dr n (min n 64) 1 0).1,
          (scanSteps d.smu.cells s.port (columnOf s.startAz) r0 dc dr n (min n 64) 1 0).2, decide (64 < n)⟩ := by
      refine (if_pos ((rowOnMap_iff _).2 ⟨low, high⟩)).trans ?_
      rw [sweep]
      rfl
    obtain ⟨obstacle, count⟩ := scanSteps_found d.smu.cells s.port (columnOf s.startAz) r0 dc dr n (min n 64) 1 0
    have steps : ∀ k, Examined (scanInside r0 dr n) (scanBlocked d.smu.cells s.port (columnOf s.startAz) r0 dc dr n) 1 (min n 64) k ↔
        examined k := by
      intro k
      constructor
      · rintro ⟨from_, to_, on, free⟩
        exact ⟨from_, by omega, by omega, on, free⟩
      · rintro ⟨from_, to_, most, on, free⟩
        exact ⟨from_, by omega, on, free⟩
    rw [scanned]
    refine ⟨fun k => (obstacle k).trans (and_congr (steps k) Iff.rfl), ?_, decide_eq_true_iff⟩
    rw [count, Nat.zero_add]
    exact congrArg Set.ncard (Set.ext fun k => and_congr (steps k) Iff.rfl)
  · intro d q before after s queue first waits r0 off
    refine congrArg (fun e => Host.Outcome.next (State.mk e q)) ((Device.takeScan_of_first queue first waits).trans ?_)
    have scanned : d.smu.scan s = ⟨none, 0, decide (0 ≤ r0) && decide (r0 ≤ 127) && decide (64 < s.steps)⟩ := by
      by_cases on : 0 ≤ r0 ∧ r0 ≤ 127
      · have sweep : d.smu.sweep.isSome = true := by
          rcases off with off | off | sweep
          · omega
          · omega
          · exact sweep
        refine (if_pos ((rowOnMap_iff _).2 on)).trans ((if_pos sweep).trans ?_)
        rw [decide_eq_true on.1, decide_eq_true on.2]
        rfl
      · have outside : (decide (0 ≤ r0) && decide (r0 ≤ 127)) = false := by
          rw [Bool.eq_false_iff, Ne, Bool.and_eq_true, decide_eq_true_eq, decide_eq_true_eq]
          exact on
        rw [outside]
        exact if_neg fun h => on ((rowOnMap_iff _).1 h)
    rw [scanned]

end Sys2Proof
end

section
/-! PROOFS. The register writes that act or are discarded, and the reads with an effect: O36, O37. -/

namespace Sys2Proof.Machine

/-! ## Bit fields (R194) -/

theorem fieldAt_getLsbD {low width : Nat} (fits : low + width ≤ 32) (v i : Nat) :
    (fieldAt low width v).getLsbD i = (decide (low ≤ i) && decide (i < low + width) && v.testBit (i - low)) := by
  rw [fieldAt, BitVec.getLsbD_ofNat, Nat.testBit_mul_two_pow, Nat.testBit_mod_two_pow]
  by_cases from_ : low ≤ i
  · by_cases to_ : i < low + width
    · simp [from_, to_, show i < 32 by omega, show i - low < width by omega]
    · simp [from_, to_, show ¬ i - low < width by omega]
  · simp [from_]

/-- A field read back where it stands. -/
theorem extractLsb'_fieldAt {low width len v : Nat} (fits : low + width ≤ 32) (small : v < 2 ^ width) :
    (fieldAt low width v).extractLsb' low len = BitVec.ofNat len v := by
  refine BitVec.eq_of_getLsbD_eq fun i inside => ?_
  rw [BitVec.getLsbD_extractLsb', fieldAt_getLsbD fits, BitVec.getLsbD_ofNat]
  by_cases within : i < width
  · simp [within]
  · have beyond : v.testBit i = false := Nat.testBit_lt_two_pow (Nat.lt_of_lt_of_le small (Nat.pow_le_pow_right (by decide) (by omega)))
    simp [beyond]

/-- A field leaves the bits beside it clear. -/
theorem extractLsb'_fieldAt_other {low width start len : Nat} (v : Nat) (fits : low + width ≤ 32)
    (apart : start + len ≤ low ∨ low + width ≤ start) : (fieldAt low width v).extractLsb' start len = 0 := by
  refine BitVec.eq_of_getLsbD_eq fun i inside => ?_
  rw [BitVec.getLsbD_extractLsb', fieldAt_getLsbD fits]
  by_cases from_ : low ≤ start + i
  · simp [from_, show ¬ start + i < low + width by omega]
  · simp [from_]

theorem fieldAt_zero {width v : Nat} (small : v < 2 ^ width) : fieldAt 0 width v = BitVec.ofNat 32 v := by
  rw [fieldAt, Nat.mod_eq_of_lt small, pow_zero, Nat.mul_one]

/-- Two fields of one word, the second in its upper half. -/
theorem packed_halves {a b : Nat} (high : b < 65536) :
    packed [fieldAt 0 8 (a % 256), fieldAt 16 16 b] = BitVec.ofNat 32 (a % 256 + 65536 * b) := by
  refine BitVec.eq_of_toNat_eq ?_
  have fields : packed [fieldAt 0 8 (a % 256), fieldAt 16 16 b] = fieldAt 16 16 b ||| fieldAt 0 8 (a % 256) := by
    show (0#32 ||| fieldAt 0 8 (a % 256)) ||| fieldAt 16 16 b = _
    rw [BitVec.zero_or, BitVec.or_comm]
  have lower : (fieldAt 0 8 (a % 256)).toNat = a % 256 := by simp only [fieldAt, BitVec.toNat_ofNat]; omega
  have upper : (fieldAt 16 16 b).toNat = 2 ^ 16 * b := by simp only [fieldAt, BitVec.toNat_ofNat]; omega
  rw [fields, BitVec.toNat_or, lower, upper, ← Nat.two_pow_add_eq_or_of_lt (by omega), BitVec.toNat_ofNat]
  omega

/-! ## The roll call (R111) -/

/-- The ports before one, and those after it. -/
theorem allPorts_split (p : Port) : allPorts = allPorts.take p.val ++ p :: allPorts.drop (p.val + 1) := by fin_cases p <;> rfl

theorem lt_of_mem_take : ∀ p j : Port, j ∈ allPorts.take p.val → j < p := by decide

/-- Whether a station is present for a read of ROLL (R111). -/
def Device.rollShows (d : Device) (p : Port) : Bool :=
  decide (d.stationState p ≠ .absent) && (d.stations.get p).identity.isSome && decide (d.roll.cursor ≤ p.val)

theorem Device.rollIdentity_of_not {d : Device} {p : Port} (off : d.rollShows p = false) (reached : d.roll.cursor ≤ p.val) :
    (d.stations.get p).rollIdentity = none := by
  unfold Station.rollIdentity
  split
  · rfl
  · next present =>
    have here : d.stationState p ≠ .absent := present
    simpa [Device.rollShows, here, reached] using off

/-- The ports that a read passes over give nothing. -/
theorem Device.findSome?_roll_none {d : Device} {l : List Port} (off : ∀ p ∈ l, d.rollShows p = false) :
    ((l.filter fun p => decide (d.roll.cursor ≤ p.val)).findSome? fun p =>
      (d.stations.get p).rollIdentity.map fun i => (p, i)) = none := by
  refine List.findSome?_eq_none_iff.2 fun p mem => ?_
  obtain ⟨inside, reached⟩ := List.mem_filter.1 mem
  rw [Device.rollIdentity_of_not (off p inside) (of_decide_eq_true reached)]
  rfl

theorem Device.rollFind_of_none {d : Device} (off : ∀ p, d.rollShows p = false) : d.rollFind = none :=
  Device.findSome?_roll_none fun p _ => off p

theorem Device.rollFind_of_first {d : Device} {p : Port} {i : Identity} (shows_ : d.rollShows p = true)
    (first : ∀ j : Port, j < p → d.rollShows j = false) (identity : (d.stations.get p).identity = some i) :
    d.rollFind = some (p, i) := by
  simp only [Device.rollShows, Bool.and_eq_true, decide_eq_true_eq] at shows_
  obtain ⟨⟨present, -⟩, reached⟩ := shows_
  have here : (d.stations.get p).rollIdentity = some i := (if_neg present).trans identity
  unfold Device.rollFind
  rw [allPorts_split p, List.filter_append, List.findSome?_append,
    Device.findSome?_roll_none fun j mem => first j (lt_of_mem_take p j mem), Option.none_or,
    List.filter_cons_of_pos (p := fun j : Port => decide (d.roll.cursor ≤ j.val)) (decide_eq_true reached), List.findSome?_cons_of_isSome (by rw [here]; rfl), here]
  rfl

/-! ## Registers at equal steps -/

/-- An offset in a run of n words from a base is one of them. -/
theorem exists_word_of_range {o : BitVec 12} {base n : Nat} (aligned : o.toNat % 4 = 0) (base_ : base % 4 = 0) (low : base ≤ o.toNat)
    (high : o.toNat < base + 4 * n) : ∃ i, i < n ∧ o = BitVec.ofNat 12 (base + 4 * i) := by
  refine ⟨(o.toNat - base) / 4, by omega, BitVec.eq_of_toNat_eq ?_⟩
  rw [BitVec.toNat_ofNat]
  have := o.isLt
  omega

theorem mem_of_range {o : BitVec 12} {base n : Nat} {l : List (BitVec 12)} (aligned : o.toNat % 4 = 0) (base_ : base % 4 = 0)
    (low : base ≤ o.toNat) (high : o.toNat < base + 4 * n) (all : ∀ i, i < n → BitVec.ofNat 12 (base + 4 * i) ∈ l) : o ∈ l := by
  obtain ⟨i, inside, rfl⟩ := exists_word_of_range aligned base_ low high
  exact all i inside

theorem mem_of_toNat {o : BitVec 12} {n : Nat} {l : List (BitVec 12)} (at_ : o.toNat = n) (mem : BitVec.ofNat 12 n ∈ l) : o ∈ l := by
  have same : o = BitVec.ofNat 12 n := BitVec.eq_of_toNat_eq (by rw [BitVec.toNat_ofNat]; have := o.isLt; omega)
  rwa [same]

/-- The offsets of the window whose write stores or acts. -/
def writtenRegisters : List (BitVec 12) := storedRegisters.map Prod.fst ++ actingRegisters

/-- The release word of a mailbox (R123), of every port. -/
theorem Device.writeWord_release (d : Device) (p : Port) (w : Word) :
    d.writeWord (BitVec.ofNat 12 (0x41C + 0x20 * p.val)) w = d.releaseMailbox p := by
  fin_cases p <;> simp [Device.writeWord, groupPort]

/-- The flag word of a port (R154), of every port. -/
theorem Device.writeWord_portFlags (d : Device) (p : Port) (w : Word) :
    d.writeWord (BitVec.ofNat 12 (0x488 + 0x20 * p.val)) w = d.clearPortFlags p w := by
  fin_cases p <;> simp [Device.writeWord, groupPort]

/-- The peek data word shows the state code of the selected cell (R103). -/
theorem Device.readWord_peek (d : Device) : d.readWord 0x758 = fieldAt 0 4 d.smu.peekCell.code := by
  have word : d.readWord 0x758 = groupWord d.smu.words 6 := rfl
  exact word.trans rfl

/-! ## The words with an effect when read -/

/-- The number of an optional port, 15 for NONE (R194). -/
def portNumber (p : Option Port) : Nat :=
  match p with
  | some q => q.val
  | none => 15

theorem portNumber_lt (p : Option Port) : portNumber p < 2 ^ 4 := by
  cases p with
  | none => decide
  | some q => exact Nat.lt_of_lt_of_le q.isLt (by decide)

theorem portField_eq (low : Nat) (p : Option Port) : portField low p = fieldAt low 4 (portNumber p) := by cases p <;> rfl

theorem TrackState.code_lt (s : TrackState) : s.code < 2 ^ 3 := by cases s <;> decide

theorem toNat_lt_two (b : Bool) : b.toNat < 2 ^ 1 := by cases b <;> decide

theorem Track.firstWord_eq (t : Track) :
    t.firstWord = fieldAt 0 3 t.state.code ||| fieldAt 4 4 (portNumber t.owner) ||| fieldAt 8 4 (portNumber t.candidate) |||
      fieldAt 12 1 t.blind.toNat := by
  rw [← portField_eq, ← portField_eq]
  show (((0#32 ||| fieldAt 0 3 t.state.code) ||| portField 4 t.owner) ||| portField 8 t.candidate) ||| bitAt 12 t.blind = _
  rw [BitVec.zero_or]
  rfl

/-- The four fields of the track group's first word (R194), read back. -/
theorem Track.firstWord_state (t : Track) : (t.firstWord.extractLsb' 0 4).toNat = t.state.code := by
  rw [t.firstWord_eq, BitVec.extractLsb'_or, BitVec.extractLsb'_or, BitVec.extractLsb'_or,
    extractLsb'_fieldAt (by decide) t.state.code_lt, extractLsb'_fieldAt_other _ (by decide) (.inl (by decide)),
    extractLsb'_fieldAt_other _ (by decide) (.inl (by decide)), extractLsb'_fieldAt_other _ (by decide) (.inl (by decide))]
  cases t.state <;> rfl

theorem Track.firstWord_owner (t : Track) : (t.firstWord.extractLsb' 4 4).toNat = portNumber t.owner := by
  rw [t.firstWord_eq, BitVec.extractLsb'_or, BitVec.extractLsb'_or, BitVec.extractLsb'_or,
    extractLsb'_fieldAt_other _ (by decide) (.inr (by decide)), extractLsb'_fieldAt (by decide) (portNumber_lt t.owner),
    extractLsb'_fieldAt_other _ (by decide) (.inl (by decide)), extractLsb'_fieldAt_other _ (by decide) (.inl (by decide))]
  have small := portNumber_lt t.owner
  simpa using small

theorem Track.firstWord_candidate (t : Track) : (t.firstWord.extractLsb' 8 4).toNat = portNumber t.candidate := by
  rw [t.firstWord_eq, BitVec.extractLsb'_or, BitVec.extractLsb'_or, BitVec.extractLsb'_or,
    extractLsb'_fieldAt_other _ (by decide) (.inr (by decide)), extractLsb'_fieldAt_other _ (by decide) (.inr (by decide)),
    extractLsb'_fieldAt (by decide) (portNumber_lt t.candidate), extractLsb'_fieldAt_other _ (by decide) (.inl (by decide))]
  have small := portNumber_lt t.candidate
  simpa using small

theorem Track.firstWord_blind (t : Track) : (t.firstWord.extractLsb' 12 20).toNat = t.blind.toNat := by
  rw [t.firstWord_eq, BitVec.extractLsb'_or, BitVec.extractLsb'_or, BitVec.extractLsb'_or,
    extractLsb'_fieldAt_other _ (by decide) (.inr (by decide)), extractLsb'_fieldAt_other _ (by decide) (.inr (by decide)),
    extractLsb'_fieldAt_other _ (by decide) (.inr (by decide)), extractLsb'_fieldAt (by decide) (toNat_lt_two t.blind)]
  cases t.blind <;> rfl

/-- LATENCY_MAX keeps its value (R194): of the parameter words only it is not stored. -/
theorem Device.paramsWrite_of_other {d : Device} {o : Nat} {w : Word} {rest : Device} (aligned : o % 4 = 0)
    (before : ¬ (0x200 ≤ o ∧ o < 0x214)) (after : ¬ (0x218 ≤ o ∧ o < 0x248)) (same : rest = d) :
    (if 0x200 ≤ o ∧ o < 0x248 then { d with params := d.params.write ((o - 0x200) / 4) w } else rest) = d := by
  by_cases inside : 0x200 ≤ o ∧ o < 0x248
  · have five : (o - 0x200) / 4 = 5 := by omega
    rw [if_pos inside, five]
    rfl
  · exact (if_neg inside).trans same

/-- A write of any other offset, read-only, unused or not that of a word, is discarded (R186). -/
theorem Device.writeWord_of_other {d : Device} {o : BitVec 12} (other : o ∉ writtenRegisters) (w : Word) : d.writeWord o w = d := by
  by_cases aligned : o.toNat % 4 = 0
  · have single : ∀ n, BitVec.ofNat 12 n ∈ writtenRegisters → ¬ o.toNat = n := fun n mem at_ => other (mem_of_toNat at_ mem)
    have range : ∀ base n, base % 4 = 0 → (∀ i, i < n → BitVec.ofNat 12 (base + 4 * i) ∈ writtenRegisters) →
        ¬ (base ≤ o.toNat ∧ o.toNat < base + 4 * n) := fun base n base_ all h => other (mem_of_range aligned base_ h.1 h.2 all)
    have parameters := range 0x040 8 rfl fun i _ => by interval_cases i <;> decide
    have staging := range 0x060 12 rfl fun i _ => by interval_cases i <;> decide
    have before := range 0x200 5 rfl fun i _ => by interval_cases i <;> decide
    have after := range 0x218 12 rfl fun i _ => by interval_cases i <;> decide
    have window0 := range 0x7C0 3 rfl fun i _ => by interval_cases i <;> decide
    have window1 := range 0x7CC 3 rfl fun i _ => by interval_cases i <;> decide
    have mailbox : ¬ (0x400 ≤ o.toNat ∧ o.toNat < 0x480 ∧ o.toNat % 0x20 = 0x1C) := by
      have := single 0x41C (by decide)
      have := single 0x43C (by decide)
      have := single 0x45C (by decide)
      have := single 0x47C (by decide)
      omega
    have flags : ¬ (0x480 ≤ o.toNat ∧ o.toNat < 0x500 ∧ o.toNat % 0x20 = 0x08) := by
      have := single 0x488 (by decide)
      have := single 0x4A8 (by decide)
      have := single 0x4C8 (by decide)
      have := single 0x4E8 (by decide)
      omega
    exact (if_neg (not_not.2 aligned)).trans ((if_neg (single 0x000 (by decide))).trans ((if_neg (single 0x004 (by decide))).trans
      ((if_neg (single 0x00C (by decide))).trans ((if_neg (single 0x010 (by decide))).trans ((if_neg (single 0x014 (by decide))).trans
      ((if_neg (single 0x018 (by decide))).trans ((if_neg (single 0x024 (by decide))).trans ((if_neg parameters).trans
      ((if_neg staging).trans (Device.paramsWrite_of_other aligned before after ((if_neg (single 0x248 (by decide))).trans
      ((if_neg mailbox).trans ((if_neg flags).trans ((if_neg (single 0x754 (by decide))).trans
      ((if_neg (single 0x780 (by decide))).trans ((if_neg window0).trans (if_neg window1)))))))))))))))))
  · exact if_pos aligned

end Sys2Proof.Machine

namespace Sys2Proof

open Machine

/-- Settles O36. -/
theorem registerWritesAct : Obligations.RegisterWritesAct := by
  refine ⟨fun w s => ⟨?_, ?_, rfl, rfl, rfl, rfl, rfl, fun p => ⟨?_, ?_⟩, ?_⟩, fun d q o w => ⟨fun stored acting => ?_, rfl, rfl⟩,
    fun d q p w => ⟨rfl, rfl⟩⟩
  · exact apply_ite s.answer _ _ _
  · exact apply_ite s.answer _ _ _
  · exact congrArg s.answer (Device.writeWord_release s.device p w)
  · exact congrArg s.answer (Device.writeWord_portFlags s.device p w)
  · exact (apply_ite s.answer _ _ _).trans (if_congr Iff.rfl rfl ((apply_ite s.answer _ _ _).trans
      (if_congr Iff.rfl rfl (apply_ite s.answer _ _ _))))
  · refine congrArg (fun e => Host.Outcome.next (State.mk e q)) (Device.writeWord_of_other ?_ w)
    exact fun mem => (List.mem_append.1 mem).elim stored acting

/-- Settles O37. -/
theorem readsWithEffects : Obligations.ReadsWithEffects := by
  refine ⟨fun d q => ⟨⟨d.track.firstWord, rfl, d.track.firstWord_state, ?_, ?_, d.track.firstWord_blind⟩, ?_⟩, ?_⟩
  · exact d.track.firstWord_owner
  · exact d.track.firstWord_candidate
  · intro k cell
    refine congrArg (fun e => Host.Outcome.next (State.mk e q)) ?_
    have word : d.readWord 0x758 = fieldAt 0 4 cell.code := Device.readWord_peek d
    have small : cell.code < 2 ^ 4 := by cases cell <;> decide
    show d.returnWord (d.readWord 0x758) = _
    rw [word, fieldAt_zero small]
    rfl
  · intro d q present
    have read : ∀ entry, d.rollFind = entry → exec .rollRead ⟨d, q⟩ = .next ⟨Device.readRoll d, q⟩ := fun _ _ => rfl
    refine ⟨fun p shows_ first i identity => ?_, fun off => ?_, fun w => rfl⟩
    · refine congrArg (fun e => Host.Outcome.next (State.mk e q)) ?_
      have advanced : d.rollAdvance = { d with roll := ⟨p.val + 1, some (p, i)⟩ } := by
        rw [Device.rollAdvance, Device.rollFind_of_first shows_ first identity]
      have word : (⟨p.val + 1, some (p, i)⟩ : RollCall).word = BitVec.ofNat 32 (p.val + 65536 * i.maker.toNat) := by
        have port : p.val % 256 = p.val := Nat.mod_eq_of_lt (by omega)
        have halves := packed_halves (a := p.val) (b := i.maker.toNat) i.maker.isLt
        rwa [port] at halves
      show d.readRoll = _
      rw [Device.readRoll, advanced, word]
      rfl
    · refine congrArg (fun e => Host.Outcome.next (State.mk e q)) ?_
      have advanced : d.rollAdvance = { d with roll := ⟨4, none⟩ } := by
        rw [Device.rollAdvance, Device.rollFind_of_none off]
      show d.readRoll = _
      rw [Device.readRoll, advanced]
      rfl

end Sys2Proof
end

section
/-! PROOFS. A port beside its station's state (R27, R28, R146, R160), and the changes that touch no role: the base of O5, O6, O9. -/

namespace Sys2Proof.Machine

/-! ## A port beside a station state -/

/-- What O9 asks of one port, as a statement about a station state and a port. -/
structure StationState.Links (s : StationState) (l : LinkPort) : Prop where
  down : l.state = .down ↔ s = .absent
  quietDown : l.state = .down →
    l.control = [] ∧ l.slot = none ∧ l.sending = .idle ∧ l.idreqPending = false ∧ l.answers = [] ∧ l.inFrame = none
  orders : l.orders ≤ 1
  releases : l.releases ≤ 1
  passes : l.passes ≤ 2
  kinds : ∀ f ∈ l.control, f.isOrder || f.isRelease || f.isPass
  role : l.orders = 0 ∨ s = .taking ∨ s = .searching
  framing : l.Framing

theorem Device.links_iff (d : Device) (p : Port) :
    d.LinkAgrees p ∧ (d.ports.get p).Framing ↔ (d.stationState p).Links (d.ports.get p) :=
  ⟨fun ⟨⟨down, quiet, orders, releases, passes, kinds, role⟩, framing⟩ => ⟨down, quiet, orders, releases, passes, kinds, role, framing⟩,
   fun ⟨down, quiet, orders, releases, passes, kinds, role, framing⟩ => ⟨⟨down, quiet, orders, releases, passes, kinds, role⟩, framing⟩⟩

/-- What a port's law reads of it. -/
def LinkPort.linked (l : LinkPort) :
    PortState × List OutFrame × Option (Byte × Vec3) × Sending × Bool × List LinkAnswer × Option (List LineChar) × Nat :=
  (l.state, l.control, l.slot, l.sending, l.idreqPending, l.answers, l.inFrame, l.training)

/-- The frames of a control queue, counted by kind, after others. -/
structure LinkPort.Fewer (k l : LinkPort) : Prop where
  orders : k.orders ≤ l.orders
  releases : k.releases ≤ l.releases
  passes : k.passes ≤ l.passes
  kinds : ∀ f ∈ k.control, f ∈ l.control

theorem LinkPort.Fewer.of_sublist {k l : LinkPort} (h : k.control.Sublist l.control) : k.Fewer l :=
  ⟨h.countP_le, h.countP_le, h.countP_le, fun _ mem => h.subset mem⟩

theorem LinkPort.Fewer.of_eq {k l : LinkPort} (h : k.control = l.control) : k.Fewer l := .of_sublist (h ▸ .refl _)

namespace StationState.Links

variable {s s' : StationState} {k l : LinkPort}

theorem of_linked (h : s.Links l) (same : k.linked = l.linked) : s.Links k := by
  simp only [LinkPort.linked, Prod.mk.injEq] at same
  obtain ⟨state, control, slot, sending, idreq, answers, inFrame, training⟩ := same
  obtain ⟨down, quiet, orders, releases, passes, kinds, role, ⟨trained, collected, sent⟩⟩ := h
  refine ⟨?_, ?_, ?_, ?_, ?_, ?_, ?_, ⟨?_, ?_, ?_⟩⟩ <;>
    simpa only [LinkPort.orders, LinkPort.releases, LinkPort.passes, state, control, slot, sending, idreq, answers, inFrame, training]

/-- The law of an up port, from what it asks there. -/
theorem of_up (h : s.Links l) (up : k.state ≠ .down) (present : s' ≠ .absent) (fewer : k.Fewer l)
    (role : k.orders = 0 ∨ s' = s) (framing : k.Framing) : s'.Links k where
  down := ⟨fun at_ => absurd at_ up, fun at_ => absurd at_ present⟩
  quietDown at_ := absurd at_ up
  orders := Nat.le_trans fewer.orders h.orders
  releases := Nat.le_trans fewer.releases h.releases
  passes := Nat.le_trans fewer.passes h.passes
  kinds f mem := h.kinds f (fewer.kinds f mem)
  role := role.elim .inl fun same => by
    rcases h.role with none_ | held
    · exact .inl (Nat.le_zero.1 (none_ ▸ fewer.orders))
    · exact .inr (same ▸ held)
  framing := framing

/-- An up port's law with its frames and its station as they were. -/
theorem of_up_same (h : s.Links l) (was : l.state ≠ .down) (up : k.state ≠ .down) (control : k.control = l.control)
    (framing : k.Framing) : s.Links k :=
  h.of_up up (fun at_ => was (h.down.2 at_)) (.of_eq control) (.inr rfl) framing

theorem present (h : s.Links l) (up : l.state ≠ .down) : s ≠ .absent := fun at_ => up (h.down.2 at_)

theorem up (h : s.Links l) (present : s ≠ .absent) : l.state ≠ .down := fun at_ => present (h.down.1 at_)

/-- A station without an order's role has none waiting. -/
theorem no_order (h : s.Links l) (taking : s ≠ .taking) (searching : s ≠ .searching) : l.orders = 0 := by
  rcases h.role with none_ | at_ | at_
  · exact none_
  · exact absurd at_ taking
  · exact absurd at_ searching

/-- The state of a station changed, its link as it was. -/
theorem restate (h : s.Links l) (link : s' = .absent ↔ s = .absent) (role : l.orders = 0 ∨ s' = s) : s'.Links l where
  down := h.down.trans link.symm
  quietDown := h.quietDown
  orders := h.orders
  releases := h.releases
  passes := h.passes
  kinds := h.kinds
  role := role.elim .inl fun same => same ▸ h.role
  framing := h.framing

/-- The end of an order (R28), the station then in any state of its link. -/
theorem endOrder (h : s.Links l) (link : s' = .absent ↔ s = .absent) : s'.Links l.endOrder := by
  obtain ⟨orders, releases, passes⟩ := l.endOrder_counts
  refine ⟨h.down.trans link.symm, fun at_ => ?_, ?_, ?_, ?_, fun f mem => h.kinds f (List.mem_filter.1 mem).1, .inl orders,
    h.framing.training, h.framing.collected, fun f n sending => ?_⟩
  · obtain ⟨control, slot, sending, idreq, answers, inFrame⟩ := h.quietDown at_
    exact ⟨by simp [LinkPort.endOrder, control], slot, by simp [LinkPort.endOrder, sending], idreq, answers, inFrame⟩
  · exact orders.trans_le (Nat.zero_le _)
  · exact releases.trans_le h.releases
  · exact passes.trans_le h.passes
  · cases was : l.sending with
    | idle => simp [LinkPort.endOrder, was] at sending
    | awaiting g => simp [LinkPort.endOrder, was] at sending
    | sending g m =>
      simp only [LinkPort.endOrder, was, Sending.sending.injEq] at sending
      obtain ⟨rfl, rfl⟩ := sending
      exact h.framing.sent g m was

/-- A RELEASE placed on an up port (R29). -/
theorem placeRelease (h : s.Links l) (present : s ≠ .absent) (reason : ReleaseReason) : s.Links (l.placeRelease reason) := by
  obtain ⟨orders, passes, releases⟩ := l.placeRelease_counts reason
  have up : l.state ≠ .down := h.up present
  have rest : (l.placeRelease reason).sending = l.sending ∧ (l.placeRelease reason).inFrame = l.inFrame ∧
      (l.placeRelease reason).training = l.training := by
    unfold LinkPort.placeRelease
    split <;> exact ⟨rfl, rfl, rfl⟩
  obtain ⟨sending, inFrame, training⟩ := rest
  have state := l.placeRelease_state reason
  refine ⟨by rw [state]; exact h.down, fun at_ => absurd (state ▸ at_) up, ?_, ?_, ?_, fun f mem => ?_, ?_,
    ⟨by rw [training]; exact h.framing.training, by rw [inFrame, state]; exact h.framing.collected,
      by rw [sending]; exact h.framing.sent⟩⟩
  · exact orders.trans_le h.orders
  · exact releases.trans_le (Nat.max_le.2 ⟨le_refl _, h.releases⟩)
  · exact passes.trans_le h.passes
  · unfold LinkPort.placeRelease at mem
    split at mem
    · obtain ⟨g, was, rfl⟩ := List.mem_map.1 mem
      split
      · rfl
      · exact h.kinds g was
    · rcases List.mem_append.1 mem with old | new
      · exact h.kinds f old
      · rw [List.mem_singleton.1 new]
        rfl
  · exact h.role.imp_left orders.trans

/-- A station released (R29): the RELEASE, and STANDBY or ABSENT. -/
theorem released (h : s.Links l) (link : s' = .absent ↔ s = .absent) (reason : ReleaseReason) : s'.Links (l.released s reason) := by
  unfold LinkPort.released
  split
  · exact h.endOrder link
  · next present => exact (h.placeRelease present reason).endOrder link

/-- An order placed for a station without one, which takes its role (R28, R31, R42). -/
theorem placeOrder (h : s.Links l) (present : s ≠ .absent) (none_ : l.orders = 0) {f : OutFrame} (order : f.isOrder = true)
    (role : s' = .taking ∨ s' = .searching) : s'.Links (l.place f) := by
  have other : f.isRelease = false ∧ f.isPass = false := by cases f <;> simp_all [OutFrame.isOrder, OutFrame.isRelease, OutFrame.isPass]
  have counted : ∀ test : OutFrame → Bool, (l.place f).control.countP test = l.control.countP test + (if test f then 1 else 0) := by
    intro test
    rw [LinkPort.place, List.countP_append, List.countP_singleton]
  refine ⟨⟨fun at_ => absurd at_ (h.up present), fun at_ => by rcases role with rfl | rfl <;> cases at_⟩,
    fun at_ => absurd at_ (h.up present), ?_, ?_, ?_, fun g mem => ?_, .inr role,
    h.framing.training, h.framing.collected, h.framing.sent⟩
  · rw [LinkPort.orders, counted, if_pos order]
    exact (Nat.succ_le_succ (le_of_eq none_))
  · rw [LinkPort.releases, counted, other.1]
    exact h.releases
  · rw [LinkPort.passes, counted, other.2]
    exact h.passes
  · rcases List.mem_append.1 mem with old | new
    · exact h.kinds g old
    · rw [List.mem_singleton.1 new, order]
      rfl

/-- A PASS frame placed by the host within its share (R160, R161). -/
theorem placePass (h : s.Links l) (up : l.state ≠ .down) (share : l.passes < 2) (payload : List Byte) :
    s.Links (l.place (.pass payload)) := by
  have counted : ∀ test : OutFrame → Bool,
      (l.place (.pass payload)).control.countP test = l.control.countP test + (if test (.pass payload) then 1 else 0) := by
    intro test
    rw [LinkPort.place, List.countP_append, List.countP_singleton]
  refine ⟨h.down, fun at_ => absurd at_ up, ?_, ?_, ?_, fun g mem => ?_, h.role.imp_left fun none_ => ?_,
    h.framing.training, h.framing.collected, h.framing.sent⟩
  · rw [LinkPort.orders, counted]
    exact h.orders
  · rw [LinkPort.releases, counted]
    exact h.releases
  · rw [LinkPort.passes, counted]
    exact share
  · rcases List.mem_append.1 mem with old | new
    · exact h.kinds g old
    · rw [List.mem_singleton.1 new]
      rfl
  · rw [LinkPort.orders, counted]
    exact none_

/-- A port that enters DOWN beside an ABSENT station (R146, R108). -/
theorem enterDown (l : LinkPort) : StationState.absent.Links l.enterDown where
  down := ⟨fun _ => rfl, fun _ => rfl⟩
  quietDown _ := ⟨rfl, rfl, rfl, rfl, rfl, rfl⟩
  orders := Nat.zero_le _
  releases := Nat.zero_le _
  passes := Nat.zero_le _
  kinds _ mem := absurd mem (List.not_mem_nil)
  role := .inl rfl
  framing := ⟨Nat.zero_lt_succ 7, fun _ at_ => (by cases at_), fun _ _ at_ => (by cases at_)⟩

/-- The query slot emptied (R115). -/
theorem emptySlot (h : s.Links l) : s.Links { l with slot := none } where
  down := h.down
  quietDown at_ := by
    obtain ⟨control, -, rest⟩ := h.quietDown at_
    exact ⟨control, rfl, rest⟩
  orders := h.orders
  releases := h.releases
  passes := h.passes
  kinds := h.kinds
  role := h.role
  framing := ⟨h.framing.training, h.framing.collected, h.framing.sent⟩

/-- A frame in flight ends (R158). -/
theorem endSend (h : s.Links l) (deadline : Option Word) (flags : StickyFlags) (counters : PortCounters) :
    s.Links { l with
      sending := .idle
      answerDeadline := deadline
      flags := flags
      counters := counters } where
  down := h.down
  quietDown at_ := by
    obtain ⟨control, slot, -, rest⟩ := h.quietDown at_
    exact ⟨control, slot, rfl, rest⟩
  orders := h.orders
  releases := h.releases
  passes := h.passes
  kinds := h.kinds
  role := h.role
  framing := ⟨h.framing.training, h.framing.collected, fun _ _ at_ => by cases at_⟩

/-- The take of the next frame (R156). -/
theorem takeFrame (h : s.Links l) : s.Links l.takeFrame := by
  rcases l.takeFrame_cases with same | ⟨-, up, f, rest, next_, took⟩
  · rw [same]
    exact h
  · have framed : rest.training = l.training ∧ rest.inFrame = l.inFrame ∧ rest.state = l.state ∧ rest.Fewer l := by
      rcases LinkPort.nextFrame_cases next_ with ⟨-, -, rfl⟩ | ⟨control, was, rfl⟩ | ⟨-, _, _, -, -, rfl⟩
      · exact ⟨rfl, rfl, rfl, .of_eq rfl⟩
      · exact ⟨rfl, rfl, rfl, .of_sublist (was ▸ List.sublist_cons_self f control)⟩
      · exact ⟨rfl, rfl, rfl, .of_eq rfl⟩
    obtain ⟨training, inFrame, state, fewer⟩ := framed
    rw [took]
    refine h.of_up (fun at_ => up (state ▸ at_)) (h.present up) ⟨fewer.orders, fewer.releases, fewer.passes, fewer.kinds⟩ (.inr rfl)
      ⟨training ▸ h.framing.training, fun chars at_ => ?_, fun g n at_ => ?_⟩
    · rw [show rest.state = l.state from state]
      exact h.framing.collected chars (inFrame ▸ at_)
    · obtain ⟨rfl, rfl⟩ := Sending.sending.inj at_
      exact Nat.zero_le _

/-- The EOF of a frame gone out (R157). -/
theorem eofGone (h : s.Links l) (now : Word) : s.Links (l.eofGone now) := by
  unfold LinkPort.eofGone
  split
  · next f n sending =>
    have up : l.state ≠ .down := fun at_ => by
      obtain ⟨-, -, idle, -⟩ := h.quietDown at_
      rw [idle] at sending
      cases sending
    exact h.of_up_same up up rfl ⟨h.framing.training, h.framing.collected, fun _ _ at_ => by cases at_⟩
  · exact h

/-- A character put on the line (R145). -/
theorem sendCharacter (h : s.Links l) : s.Links l.sendCharacter := by
  have kept := l.sendCharacter_leaves.1
  by_cases down : l.state = .down
  · obtain ⟨control, slot, sending, idreq, answers, inFrame⟩ := h.quietDown down
    refine h.of_linked ?_
    rcases l.sendCharacter_cases with ⟨-, sent⟩ | ⟨a, rest, at_, -⟩ | ⟨f, n, c, -, at_, -⟩ | ⟨-, -, sent⟩
    · rw [sent]
    · rw [answers] at at_
      cases at_
    · rw [sending] at at_
      cases at_
    · rw [sent]
      rfl
  · refine h.of_up_same down ?_ ?_ (LinkPort.sendCharacter_framing h.framing)
    · rw [kept]
      exact down
    · rw [kept]

end StationState.Links

end Sys2Proof.Machine
end

section
/-! PROOFS. What a change that touches no role keeps, and what each operation of the ownership machine does to the roles, to the fields
that follow the track state, and to the ports beside their stations: the steps of O5, O6, O9. -/

namespace Sys2Proof.Machine

/-! ## Changes that touch no role -/

/-- A station state without a role (R27). -/
def StationState.Roleless (s : StationState) : Prop := s ≠ .owner ∧ s ≠ .taking ∧ s ≠ .searching

/-- A station and its port changed, with no role taken up. -/
structure StationState.Eases (s : StationState) (l : LinkPort) (s' : StationState) (l' : LinkPort) : Prop where
  role : s' = s ∨ s'.Roleless
  links : s.Links l → s'.Links l'

theorem StationState.Eases.refl (s : StationState) (l : LinkPort) : s.Eases l s l := ⟨.inl rfl, id⟩

theorem StationState.Eases.trans {s s' s'' : StationState} {l l' l'' : LinkPort} (h : s.Eases l s' l') (k : s'.Eases l' s'' l'') :
    s.Eases l s'' l'' :=
  ⟨k.role.elim (fun same => same ▸ h.role) .inr, k.links ∘ h.links⟩

/-- What the roles and the track's deadlines and fields of O6 read of the track. -/
def Track.tied (t : Track) :
    TrackState × Option Port × Bool × Option Port × Bool × Option Vec3 × PerPort Bool × Deadlines :=
  (t.state, t.owner, t.blind, t.candidate, t.coastExpired, t.searchPoint, t.searchPending, t.deadlines)

theorem Track.FollowsState.of_tied {t u : Track} (h : t.FollowsState) (same : u.tied = t.tied) : u.FollowsState := by
  simp only [Track.tied, Prod.mk.injEq] at same
  obtain ⟨state, owner, blind, candidate, expired, point, pending, deadlines⟩ := same
  obtain ⟨f1, f2, f3, f4, f5, f6, f7, f8, f9, f10, f11, f12⟩ := h
  constructor <;> simpa only [state, owner, blind, candidate, expired, point, pending, deadlines]

/-- A change with the track's state, owner and candidate as they were, and no role taken up. -/
structure Device.Calm (d e : Device) : Prop where
  state : e.track.state = d.track.state
  owner : e.track.owner = d.track.owner
  candidate : e.track.candidate = d.track.candidate
  follows : d.track.FollowsState → e.track.FollowsState
  places : ∀ p, (d.stationState p).Eases (d.ports.get p) (e.stationState p) (e.ports.get p)

namespace Device.Calm

variable {d e f : Device}

theorem refl (d : Device) : d.Calm d := ⟨rfl, rfl, rfl, id, fun _ => .refl _ _⟩

theorem trans (h : d.Calm e) (k : e.Calm f) : d.Calm f :=
  ⟨k.state.trans h.state, k.owner.trans h.owner, k.candidate.trans h.candidate, k.follows ∘ h.follows,
    fun p => (h.places p).trans (k.places p)⟩

theorem of_places (tied : e.track.tied = d.track.tied)
    (places : ∀ p, (d.stationState p).Eases (d.ports.get p) (e.stationState p) (e.ports.get p)) : d.Calm e :=
  ⟨congrArg (·.1) tied, congrArg (·.2.1) tied, congrArg (·.2.2.2.1) tied, fun h => h.of_tied tied, places⟩

/-- Stations and ports as they were. -/
theorem of_same (tied : e.track.tied = d.track.tied) (stations : e.stations = d.stations) (ports : e.ports = d.ports) : d.Calm e :=
  of_places tied fun p => by rw [Device.stationState, Device.stationState, stations, ports]; exact .refl _ _

/-- One place changed. -/
theorem of_place (p : Port) {s : Station} {l : LinkPort} (tied : e.track.tied = d.track.tied)
    (stations : e.stations = d.stations.set p s) (ports : e.ports = d.ports.set p l)
    (eases : (d.stationState p).Eases (d.ports.get p) s.state l) : d.Calm e :=
  of_places tied fun q => by
    have here : e.stationState q = (if q = p then s else d.stations.get q).state := by
      rw [Device.stationState, stations, PerPort.get_set]
    rw [here, ports, PerPort.get_set]
    by_cases at_ : q = p
    · rw [if_pos at_, if_pos at_, at_]
      exact eases
    · rw [if_neg at_, if_neg at_]
      exact .refl _ _

theorem onTrack (d : Device) {f : Track → Track} (tied : (f d.track).tied = d.track.tied) : d.Calm (d.onTrack f) :=
  of_same tied rfl rfl

theorem onStation (d : Device) (p : Port) {f : Station → Station} (state : ∀ s, (f s).state = s.state) : d.Calm (d.onStation p f) :=
  of_place p (l := d.ports.get p) rfl rfl (PerPort.set_get _ _).symm ⟨.inl (state _), fun h => (state _).symm ▸ h⟩

theorem onPort (d : Device) (p : Port) {f : LinkPort → LinkPort}
    (links : ∀ s l, StationState.Links s l → s.Links (f l)) : d.Calm (d.onPort p f) :=
  of_place p (s := d.stations.get p) rfl (PerPort.set_get _ _).symm rfl ⟨.inl rfl, links _ _⟩

theorem onXfu (d : Device) (f : Xfu → Xfu) : d.Calm (d.onXfu f) := of_same rfl rfl rfl

theorem onSmu (d : Device) (f : Smu → Smu) : d.Calm (d.onSmu f) := of_same rfl rfl rfl

theorem raise (d : Device) (n : Notice) : d.Calm (d.raise n) := of_same rfl rfl rfl

theorem sendLearning (d : Device) (r : LearnRequest) : d.Calm (d.sendLearning r) := of_same rfl rfl rfl

theorem onTrackCounters (d : Device) (f : TrackCounters → TrackCounters) : d.Calm (d.onTrackCounters f) := of_same rfl rfl rfl

theorem produce (d : Device) (r : Record) : d.Calm (d.produce r) := of_same rfl rfl rfl

/-- A station that stands down is ABSENT exactly where it was, and holds no role. -/
theorem standing_state (s : Station) : (s.standing.state = .absent ↔ s.state = .absent) ∧ s.standing.state.Roleless := by
  unfold Station.standing
  by_cases absent : s.state = .absent <;> simp [absent, StationState.Roleless]

theorem standDown (d : Device) (p : Port) : d.Calm (d.standDown p) :=
  of_place p rfl (congrArg Device.stations (d.standDown_eq p)) rfl
    ⟨.inr (standing_state _).2, fun h => h.endOrder (standing_state _).1⟩

theorem sendRelease (d : Device) (p : Port) (reason : ReleaseReason) : d.Calm (d.sendRelease p reason) := by
  unfold Device.sendRelease
  split
  · exact refl d
  · next present =>
    exact of_place p (s := d.stations.get p) rfl (PerPort.set_get _ _).symm rfl ⟨.inl rfl, fun h => h.placeRelease present reason⟩

theorem releaseStation (d : Device) (p : Port) (reason : ReleaseReason) : d.Calm (d.releaseStation p reason) :=
  (sendRelease d p reason).trans (standDown _ p)

theorem freed (d : Device) (who : Port → Bool) (reason : ReleaseReason) : d.Calm (d.freed who reason) := by
  refine of_places rfl fun p => ?_
  simp only [Device.freed, Device.withPlaces, Device.stationState, get_eachPort]
  by_cases picked : who p = true
  · rw [if_pos picked, if_pos picked]
    exact ⟨.inr (standing_state _).2, fun h => h.released (standing_state _).1 reason⟩
  · rw [if_neg picked, if_neg picked]
    exact .refl _ _

theorem releaseSearching (d : Device) (reason : ReleaseReason) (winner : Option Port) : d.Calm (d.releaseSearching reason winner) := by
  rw [Device.releaseSearching_eq]
  exact freed d _ reason

theorem endRole (d : Device) (p : Port) : d.Calm (d.endRole p) :=
  of_place p (s := d.stations.get p) rfl (PerPort.set_get _ _).symm rfl ⟨.inl rfl, fun h => h.endOrder Iff.rfl⟩

end Device.Calm

/-! ## The three laws together -/

/-- Every port beside its station (O9). -/
def Device.Linked (d : Device) : Prop := ∀ p, (d.stationState p).Links (d.ports.get p)

/-- What a change keeps of the roles, of the fields that follow the track state, and of the ports beside their stations. -/
structure Device.Ties (d e : Device) : Prop where
  roles : d.RolesAgree → e.RolesAgree
  follows : d.RolesAgree → d.track.FollowsState → e.track.FollowsState
  links : d.RolesAgree → d.track.FollowsState → d.Linked → e.Linked

theorem Device.Ties.refl (d : Device) : d.Ties d := ⟨id, fun _ h => h, fun _ _ h => h⟩

theorem Device.Ties.trans {d e f : Device} (h : d.Ties e) (k : e.Ties f) : d.Ties f where
  roles r := k.roles (h.roles r)
  follows r t := k.follows (h.roles r) (h.follows r t)
  links r t l := k.links (h.roles r) (h.follows r t) (h.links r t l)

/-- A station's role after a change that takes up none was its role before. -/
theorem Device.Calm.role {d e : Device} (h : d.Calm e) {p : Port} {s : StationState} (held : ¬ s.Roleless)
    (at_ : e.stationState p = s) : d.stationState p = s :=
  (h.places p).role.elim (fun same => same ▸ at_) fun without => absurd (at_ ▸ without) held

theorem StationState.not_roleless_owner : ¬ StationState.owner.Roleless := fun h => h.1 rfl

theorem StationState.not_roleless_taking : ¬ StationState.taking.Roleless := fun h => h.2.1 rfl

theorem StationState.not_roleless_searching : ¬ StationState.searching.Roleless := fun h => h.2.2 rfl

theorem Device.Calm.roles {d e : Device} (h : d.Calm e) (r : d.RolesAgree) : e.RolesAgree where
  owner_named p at_ := h.owner.trans (r.owner_named p (h.role StationState.not_roleless_owner at_))
  owner_present := by rw [h.owner, h.state, r.owner_present]
  taking_candidate p at_ := by
    rw [h.state, h.candidate]
    exact r.taking_candidate p (h.role StationState.not_roleless_taking at_)
  searching_state p at_ := by
    rw [h.state]
    exact r.searching_state p (h.role StationState.not_roleless_searching at_)

theorem Device.Calm.linked {d e : Device} (h : d.Calm e) (l : d.Linked) : e.Linked := fun p => (h.places p).links (l p)

theorem Device.Calm.ties {d e : Device} (h : d.Calm e) : d.Ties e :=
  ⟨h.roles, fun _ t => h.follows t, fun _ _ l => h.linked l⟩

/-! ## The roles in each kind of track state -/

theorem TrackState.not_owned_of_searches {s : TrackState} (h : s.searches = true) : s.owned = false := by
  cases s <;> simp_all [TrackState.searches, TrackState.owned]

namespace Device.RolesAgree

variable {d : Device} (h : d.RolesAgree)
include h

/-- No owner, and so no OWNER station, in a state without one. -/
theorem no_owner (state : d.track.state.owned = false) : d.track.owner = none :=
  Option.isNone_iff_eq_none.1 (Option.not_isSome _ ▸ by rw [h.owner_present, state]; rfl)

theorem not_owner (state : d.track.state.owned = false) (p : Port) : d.stationState p ≠ .owner := fun at_ => by
  have named := h.owner_named p at_
  rw [h.no_owner state] at named
  cases named

theorem not_taking (state : d.track.state ≠ .handoff) (p : Port) : d.stationState p ≠ .taking := fun at_ =>
  state (h.taking_candidate p at_).1

theorem not_searching (state : d.track.state.searches = false) (p : Port) : d.stationState p ≠ .searching := fun at_ => by
  have searches := h.searching_state p at_
  rw [state] at searches
  cases searches

end Device.RolesAgree

/-! ## A change of track state -/

theorem Device.RolesAgree.changeState {d : Device} {after : TrackState} (sat : Bool)
    (named : ∀ p, d.stationState p = .owner → d.track.owner = some p) (present : d.track.owner.isSome = after.owned)
    (taking : ∀ p, d.stationState p = .taking → after = .handoff ∧ d.track.candidate = some p)
    (searching : ∀ p, d.stationState p = .searching → after.searches = true) : (d.changeState after sat).RolesAgree :=
  ⟨named, present, taking, searching⟩

/-- What the track must hold for a change of state to leave its fields following the new state. -/
structure Track.Enters (t : Track) (after : TrackState) : Prop where
  query : after.owned = true → t.state.owned = true → t.deadlines.query.isSome = true
  handoff : t.deadlines.handoff.isSome = decide (after = .handoff)
  search : t.deadlines.search.isSome = after.searches
  output : t.deadlines.output.isSome = t.blind
  coast : t.deadlines.coast.isSome = (t.blind && !t.coastExpired)
  blind : t.blind = true → after = .coast ∨ after = .handoff
  coasting : after = .coast → t.blind = true
  expired : t.coastExpired = true → after = .handoff ∧ t.blind = true
  candidate : t.candidate.isSome = decide (after = .handoff)
  rivals : t.candidate.isSome = true → t.candidate ≠ t.owner
  searchPoint : t.searchPoint.isSome = decide (after = .search)
  pending : ∀ p, t.searchPending.get p = true → after = .search

theorem Track.Enters.follows {d : Device} {after : TrackState} (h : d.track.Enters after) (sat : Bool) :
    (d.changeState after sat).track.FollowsState := by
  rw [d.changeState_track]
  refine ⟨?_, h.handoff, h.search, ?_, h.coast, h.blind, h.coasting, h.expired, h.candidate, h.rivals, h.searchPoint, h.pending⟩
  · show (if after.owned then (if d.track.state.owned then d.track.deadlines.query else some d.tb) else none).isSome = after.owned
    by_cases owned : after.owned = true
    · by_cases was : d.track.state.owned = true
      · rw [if_pos owned, if_pos was, h.query owned was, owned]
      · rw [if_pos owned, if_neg was, owned]
        rfl
    · rw [if_neg owned, Bool.eq_false_iff.2 owned]
      rfl
  · show (if after = .idle ∨ after = .search ∨ after = .lost then none else d.track.deadlines.output).isSome = d.track.blind
    split
    · next ends =>
      have sighted : d.track.blind = false := Bool.eq_false_iff.2 fun blind => by
        rcases h.blind blind with rfl | rfl <;> simp at ends
      rw [sighted]
      rfl
    · exact h.output

theorem Device.Linked.onTrack {d : Device} (h : d.Linked) (f : Track → Track) : (d.onTrack f).Linked := h

theorem Device.Linked.changeState {d : Device} (h : d.Linked) (after : TrackState) (sat : Bool) : (d.changeState after sat).Linked := h

/-! ## Loss and search (R68, R72, R75) -/

theorem Device.enterLost_track (d : Device) : d.enterLost.track = d.lost.track := by
  rw [Device.enterLost_eq]
  split
  · obtain ⟨-, track, -⟩ := d.lost.flush_leaves
    exact track
  · rfl

/-- The track enters LOST from a search without a SEARCHING station. -/
theorem Device.Ties.enterLost {d : Device} (state : d.track.state.searches = true) (none_ : ∀ p, d.stationState p ≠ .searching) :
    d.Ties d.enterLost := by
  have track := d.enterLost_track
  obtain ⟨-, -, stations, -, -, ports, -, -⟩ := d.enterLost_leaves
  have same : ∀ p, d.enterLost.stationState p = d.stationState p := fun p => by
    rw [Device.stationState, Device.stationState, stations]
  have unowned := TrackState.not_owned_of_searches state
  have fields : d.lost.track.owner = d.track.owner ∧ d.lost.track.state = .lost := ⟨rfl, rfl⟩
  refine ⟨fun r => ⟨fun p at_ => ?_, ?_, fun p at_ => ?_, fun p at_ => ?_⟩, fun r t => ?_, fun _ _ l p => ?_⟩
  · exact absurd ((same p).symm.trans at_) (r.not_owner unowned p)
  · rw [track, fields.1, fields.2, r.no_owner unowned]
    rfl
  · refine absurd ((same p).symm.trans at_) (r.not_taking (fun handoff => ?_) p)
    rw [handoff] at state
    cases state
  · exact absurd ((same p).symm.trans at_) (none_ p)
  · have sighted : d.track.blind = false := Bool.eq_false_iff.2 fun blind => by
      rcases t.blind blind with at_ | at_ <;> rw [at_] at state <;> cases state
    have notHandoff : d.track.state ≠ .handoff := fun at_ => by rw [at_] at state; cases state
    have unexpired : d.track.coastExpired = false := Bool.eq_false_iff.2 fun expired => notHandoff (t.expired expired).1
    have unnamed : d.track.candidate.isSome = false := by rw [t.candidate]; exact decide_eq_false notHandoff
    rw [track]
    refine Track.Enters.follows (d := { d with
      track := { d.track with
        searchPending := .same false
        searchPoint := none
        deadlines := .absent } }) ?_ false
    refine ⟨fun owned => (by cases owned), rfl, rfl, sighted.symm, ?_, ?_, fun at_ => (by cases at_), ?_, unnamed, ?_, rfl, ?_⟩
    · show false = (d.track.blind && !d.track.coastExpired)
      rw [sighted]
      rfl
    · exact fun blind => absurd (sighted.symm.trans blind) (by decide)
    · exact fun expired => absurd (unexpired.symm.trans expired) (by decide)
    · exact fun some_ => absurd (unnamed.symm.trans some_) (by decide)
    · intro p pending
      have asked : (PerPort.same false).get p = true := pending
      rw [PerPort.get_same] at asked
      cases asked
  · rw [same p, ports]
    exact l p

/-- The end check of a search (R72). -/
theorem Device.Ties.endCheck {d : Device} (state : d.track.state.searches = true) : d.Ties d.endCheck := by
  by_cases busy : (d.anySearching || d.anyPending) = true
  · rw [Device.endCheck, if_pos busy]
    exact .refl d
  · rw [Device.endCheck, if_neg busy]
    rw [Bool.or_eq_true, d.anySearching_iff, not_or, not_exists] at busy
    exact .enterLost state busy.1

/-- The part in SEARCH, before the end check (R68). -/
def Device.sought (d : Device) : Device :=
  (d.frozen.placed allPorts d.frozen.eligible (d.track.predict d.tb).saturate32).changeState .search false

theorem Device.enterSearch_eq_sought (d : Device) : d.enterSearch = d.sought.endCheck := d.enterSearch_eq

theorem Device.sought_stationState (d : Device) (p : Port) :
    d.sought.stationState p = if d.track.owner = some p then (d.stations.get p).standing.state else d.stationState p := by
  show ((eachPort fun p => if d.track.owner = some p then (d.stations.get p).standing else d.stations.get p).get p).state = _
  rw [get_eachPort, apply_ite Station.state]
  rfl

theorem Device.sought_ports (d : Device) (p : Port) :
    d.sought.ports.get p = if d.track.owner = some p then (d.ports.get p).endOrder else d.ports.get p := by
  show (eachPort fun p => if d.track.owner = some p then (d.ports.get p).endOrder else d.ports.get p).get p = _
  rw [get_eachPort]

theorem Device.sought_roles {d : Device} (named : ∀ p, d.stationState p = .owner → d.track.owner = some p)
    (untaken : ∀ p, d.stationState p ≠ .taking) : d.sought.RolesAgree := by
  have role : ∀ {p s}, ¬ StationState.Roleless s → d.sought.stationState p = s →
      d.track.owner ≠ some p ∧ d.stationState p = s := by
    intro p s held at_
    rw [Device.sought_stationState] at at_
    by_cases owner : d.track.owner = some p
    · rw [if_pos owner] at at_
      exact absurd (at_ ▸ (Device.Calm.standing_state _).2) held
    · rw [if_neg owner] at at_
      exact ⟨owner, at_⟩
  refine ⟨fun p at_ => ?_, rfl, fun p at_ => ?_, fun _ _ => rfl⟩
  · obtain ⟨other, was⟩ := role StationState.not_roleless_owner at_
    exact absurd (named p was) other
  · exact absurd (role StationState.not_roleless_taking at_).2 (untaken p)

theorem Device.sought_follows {d : Device} (candidate : d.track.candidate = none) : d.sought.track.FollowsState := by
  refine Track.Enters.follows ⟨fun owned => (by cases owned), rfl, rfl, rfl, rfl, fun at_ => (by cases at_),
    fun at_ => (by cases at_), fun at_ => (by cases at_), ?_, ?_, rfl, fun _ _ => rfl⟩ false
  · show d.track.candidate.isSome = false
    rw [candidate]
    rfl
  · intro some_
    have absent : d.track.candidate.isSome = true := some_
    rw [candidate] at absent
    cases absent

theorem Device.sought_linked {d : Device} (l : d.Linked) : d.sought.Linked := fun p => by
  rw [Device.sought_stationState, Device.sought_ports]
  by_cases owner : d.track.owner = some p
  · rw [if_pos owner, if_pos owner]
    exact (l p).endOrder (Device.Calm.standing_state _).1
  · rw [if_neg owner, if_neg owner]
    exact l p

/-- Entry into SEARCH from a part whose own changes leave no taker and no candidate. -/
theorem Device.Ties.enterSearch {d e : Device} (named : d.RolesAgree → ∀ p, e.stationState p = .owner → e.track.owner = some p)
    (untaken : d.RolesAgree → ∀ p, e.stationState p ≠ .taking)
    (candidate : d.track.FollowsState → e.track.candidate = none)
    (linked : d.Linked → e.Linked) : d.Ties e.enterSearch := by
  rw [Device.enterSearch_eq_sought]
  exact Device.Ties.trans ⟨fun r => Device.sought_roles (named r) (untaken r), fun _ t => Device.sought_follows (candidate t),
    fun _ _ l => Device.sought_linked (linked l)⟩ (.endCheck rfl)

end Sys2Proof.Machine
end

section
/-! PROOFS. The operations of the ownership machine under the laws of O5, O6, O9: handoffs and their ends, coast, relock, the
resolution of a search, ARM and CANCEL. -/

namespace Sys2Proof.Machine

/-! ## Small changes of the track -/

theorem Device.Calm.reseed (d : Device) (r : TrackResult) (after : TrackState) : d.Calm (d.reseed r after) := of_same rfl rfl rfl

theorem Device.Calm.update (d : Device) (r : TrackResult) (after : TrackState) : d.Calm (d.update r after) := of_same rfl rfl rfl

theorem Device.Calm.applyLock (d : Device) (r : TrackResult) (after : TrackState) : d.Calm (d.applyLock r after) := by
  unfold Device.applyLock
  split
  · exact reseed d r after
  · exact update d r after

theorem Device.Calm.askScan (d : Device) (s : Option Scan) : d.Calm (d.askScan s) := by
  unfold Device.askScan
  split
  · exact refl d
  · exact onSmu d _

theorem Device.Calm.outlier (d : Device) (r : TrackResult) : d.Calm (d.outlier r) := by
  unfold Device.outlier
  split
  · exact of_same rfl rfl rfl
  · exact of_same rfl rfl rfl

theorem Device.Calm.observe (d : Device) (r : TrackResult) : d.Calm (d.observe r) := by
  unfold Device.observe
  dsimp only
  split
  · exact onTrackCounters d _
  · split
    · exact reseed d r _
    · split
      · exact (update d r _).trans (askScan _ _)
      · exact outlier d r

theorem Device.Calm.lockCounted (d : Device) (r : TrackResult) : d.Calm (d.lockCounted r) := by
  unfold Device.lockCounted
  split
  · exact of_same rfl rfl rfl
  · exact refl d

theorem Device.Calm.learnFailedTake (d : Device) (c : Port) : d.Calm (d.learnFailedTake c) := by
  unfold Device.learnFailedTake
  split
  · exact sendLearning d _
  · exact refl d

theorem Device.Calm.releaseFormerOwner (d : Device) : d.Calm d.releaseFormerOwner := by
  unfold Device.releaseFormerOwner
  split
  · exact releaseStation d _ _
  · exact refl d

/-! ## The station a change is about -/

theorem Device.releaseStation_stationState (d : Device) (p q : Port) (reason : ReleaseReason) :
    (d.releaseStation p reason).stationState q = if q = p then (d.stations.get p).standing.state else d.stationState q := by
  rw [Device.releaseStation_eq]
  show ((d.stations.set p (d.stations.get p).standing).get q).state = _
  rw [PerPort.get_set, apply_ite Station.state]
  rfl

theorem Device.standDown_stationState (d : Device) (p q : Port) :
    (d.standDown p).stationState q = if q = p then (d.stations.get p).standing.state else d.stationState q := by
  rw [Device.standDown_eq]
  show ((d.stations.set p (d.stations.get p).standing).get q).state = _
  rw [PerPort.get_set, apply_ite Station.state]
  rfl

/-- A released station holds no role. -/
theorem Device.releaseStation_roleless (d : Device) (p : Port) (reason : ReleaseReason) :
    ((d.releaseStation p reason).stationState p).Roleless := by
  rw [Device.releaseStation_stationState, if_pos rfl]
  exact (Device.Calm.standing_state _).2

/-- After the former owner's release no station is OWNER. -/
theorem Device.RolesAgree.released_owner {d : Device} (h : d.RolesAgree) (p : Port) : d.releaseFormerOwner.stationState p ≠ .owner := by
  intro at_
  have was := (Device.Calm.releaseFormerOwner d).role StationState.not_roleless_owner at_
  have named := h.owner_named p was
  simp only [Device.releaseFormerOwner, named] at at_
  exact (d.releaseStation_roleless p .handedOff).1 at_

/-! ## The start of a handoff (R42) -/

theorem Device.Ties.startHandoff {d : Device} {c : Port} (eligible : d.eligible c = true) (other : d.track.owner ≠ some c)
    (state : d.track.state = .tracking ∨ d.track.state = .coast) : d.Ties (d.startHandoff c) := by
  obtain ⟨standby, -, -, accepting⟩ := (d.eligible_iff c).1 eligible
  have owned : d.track.state.owned = true := by rcases state with at_ | at_ <;> rw [at_] <;> rfl
  have idle : d.track.state ≠ .handoff ∧ d.track.state.searches = false := by
    rcases state with at_ | at_ <;> rw [at_] <;> exact ⟨by decide, rfl⟩
  have stations : ∀ q, (d.startHandoff c).stationState q = if q = c then .taking else d.stationState q := fun q => by
    show ((d.stations.set c { d.stations.get c with state := .taking }).get q).state = _
    rw [PerPort.get_set, apply_ite Station.state]
    rfl
  refine ⟨fun r => ⟨fun q at_ => ?_, ?_, fun q at_ => ?_, fun q at_ => ?_⟩, fun _ t => ?_, fun _ _ l q => ?_⟩
  · rw [stations] at at_
    by_cases same : q = c
    · rw [if_pos same] at at_
      cases at_
    · rw [if_neg same] at at_
      exact r.owner_named q at_
  · exact r.owner_present.trans owned
  · rw [stations] at at_
    by_cases same : q = c
    · exact ⟨rfl, congrArg some same.symm⟩
    · rw [if_neg same] at at_
      exact absurd at_ (r.not_taking idle.1 q)
  · rw [stations] at at_
    by_cases same : q = c
    · rw [if_pos same] at at_
      cases at_
    · rw [if_neg same] at at_
      exact absurd at_ (r.not_searching idle.2 q)
  · have unexpired : d.track.coastExpired = false := Bool.eq_false_iff.2 fun expired => idle.1 (t.expired expired).1
    rw [Device.startHandoff_eq]
    refine Track.Enters.follows ?_ false
    refine ⟨fun _ was => t.query.trans was, rfl, t.search.trans idle.2, t.output, t.coast, fun _ => .inr rfl,
      fun at_ => (by cases at_), fun expired => absurd (unexpired.symm.trans expired) (by decide), rfl, fun _ same => other same.symm,
      t.searchPoint.trans (decide_eq_false ?_), fun p at_ => ?_⟩
    · rcases state with at_ | at_ <;> rw [at_] <;> decide
    · have searching := t.pending p at_
      rcases state with is | is <;> rw [is] at searching <;> cases searching
  · rw [stations]
    show StationState.Links _ ((d.ports.set c ((d.ports.get c).place (.take (d.takePoint c)))).get q)
    rw [PerPort.get_set]
    by_cases same : q = c
    · rw [if_pos same, if_pos same]
      have linked := l c
      rw [standby] at linked
      exact linked.placeOrder (by decide) (linked.no_order (by decide) (by decide)) rfl (.inl rfl)
    · rw [if_neg same, if_neg same]
      exact l q

/-- A station that grades above INELIGIBLE is eligible and not the owner (R38). -/
theorem Device.grade_ne_ineligible {d : Device} {p : Port} (h : d.grade p ≠ .ineligible) :
    d.eligible p = true ∧ d.track.owner ≠ some p := by
  by_cases out : d.eligible p = false ∨ d.track.owner = some p
  · exact absurd (if_pos out) h
  · exact ⟨Bool.of_not_eq_false fun at_ => out (.inl at_), fun at_ => out (.inr at_)⟩

theorem Device.choose_grade {d : Device} {c : Port} (h : d.choose = some c) : d.grade c ≠ .ineligible := by
  rcases Option.or_eq_some_iff.1 h with good | ⟨-, fair⟩
  · have grade : d.grade c = .good := by simpa using List.find?_some good
    rw [grade]
    decide
  · have grade : d.grade c = .fair := by simpa using List.find?_some fair
    rw [grade]
    decide

/-- The automatic choice acts (R40, R63). -/
theorem Device.Ties.tryHandoff {d : Device} (state : d.track.state = .tracking ∨ d.track.state = .coast) : d.Ties d.tryHandoff := by
  unfold Device.tryHandoff
  split
  · next c choice =>
    obtain ⟨eligible, other⟩ := Device.grade_ne_ineligible (Device.choose_grade choice)
    exact .startHandoff eligible other state
  · exact (Device.Calm.onTrack d rfl).ties

/-! ## A failed take (R47) -/

theorem Device.takeFailed_stationState (d : Device) (c q : Port) (reason : FailReason) :
    (d.takeFailed c reason).stationState q = if q = c then (d.stations.get c).standing.state else d.stationState q := by
  show ((d.stations.set c _).get q).state = _
  rw [PerPort.get_set, apply_ite Station.state]
  rfl

/-- The part of a failed take before its change of state, in its roles. -/
theorem Device.takeFailed_role {d : Device} {c q : Port} {reason : FailReason} {s : StationState} (held : ¬ s.Roleless)
    (at_ : (d.takeFailed c reason).stationState q = s) : q ≠ c ∧ d.stationState q = s := by
  rw [Device.takeFailed_stationState] at at_
  by_cases same : q = c
  · rw [if_pos same] at at_
    exact absurd (at_ ▸ (Device.Calm.standing_state _).2) held
  · rw [if_neg same] at at_
    exact ⟨same, at_⟩

theorem Device.takeFailed_linked {d : Device} (l : d.Linked) (c : Port) (reason : FailReason) : (d.takeFailed c reason).Linked := fun q => by
  rw [Device.takeFailed_stationState]
  show StationState.Links _ ((d.ports.set c (d.ports.get c).endOrder).get q)
  rw [PerPort.get_set]
  by_cases same : q = c
  · rw [if_pos same, if_pos same]
    exact (l c).endOrder (Device.Calm.standing_state _).1
  · rw [if_neg same, if_neg same]
    exact l q

theorem Device.Ties.failTake {d : Device} {c : Port} (state : d.track.state = .handoff) (candidate : d.track.candidate = some c)
    (reason : FailReason) : d.Ties (d.failTake c reason) := by
  have untaken : d.RolesAgree → ∀ q, (d.takeFailed c reason).stationState q ≠ .taking := fun r q at_ => by
    obtain ⟨other, was⟩ := Device.takeFailed_role StationState.not_roleless_taking at_
    have named := (r.taking_candidate q was).2
    rw [candidate] at named
    exact other (Option.some.inj named).symm
  have named : d.RolesAgree → ∀ q, (d.takeFailed c reason).stationState q = .owner → d.track.owner = some q := fun r q at_ =>
    r.owner_named q (Device.takeFailed_role StationState.not_roleless_owner at_).2
  have unsearched : d.RolesAgree → ∀ q, (d.takeFailed c reason).stationState q ≠ .searching := fun r q at_ => by
    have searches := r.searching_state q (Device.takeFailed_role StationState.not_roleless_searching at_).2
    rw [state] at searches
    cases searches
  have roles : ∀ after : TrackState, after.owned = true → d.RolesAgree →
      ((d.takeFailed c reason).changeState after false).RolesAgree := fun after owned r =>
    Device.RolesAgree.changeState false (named r) ((r.owner_present.trans (by rw [state]; rfl)).trans owned.symm)
      (fun q at_ => absurd at_ (untaken r q)) (fun q at_ => absurd at_ (unsearched r q))
  have enters : ∀ after : TrackState, after = .coast ∨ after = .tracking → d.track.FollowsState →
      d.track.coastExpired = false ∨ d.track.blind = false → (d.track.blind = true ↔ after = .coast) →
      (d.takeFailed c reason).track.Enters after := fun after kind t unexpired blind => by
    have coast : d.track.deadlines.coast.isSome = (d.track.blind && !false) := by
      rw [t.coast]
      rcases unexpired with at_ | at_ <;> rw [at_]
      rfl
    have search : d.track.deadlines.search.isSome = false := t.search.trans (by rw [state]; rfl)
    have point : d.track.searchPoint.isSome = false := t.searchPoint.trans (by rw [state]; rfl)
    have kinds : decide (after = .handoff) = false ∧ after.searches = false ∧ decide (after = .search) = false := by
      rcases kind with rfl | rfl <;> exact ⟨rfl, rfl, rfl⟩
    refine ⟨fun _ was => t.query.trans was, kinds.1.symm, search.trans kinds.2.1.symm, t.output, coast, fun at_ => .inl (blind.1 at_),
      fun at_ => blind.2 at_, fun at_ => (by cases at_), kinds.1.symm, fun at_ => (by cases at_), point.trans kinds.2.2.symm,
      fun p at_ => ?_⟩
    have searching := t.pending p at_
    rw [state] at searching
    cases searching
  rw [Device.failTake_eq]
  split
  · next blind =>
    split
    · exact .enterSearch named untaken (fun _ => rfl) fun l => Device.takeFailed_linked l c reason
    · next unexpired =>
      exact ⟨roles .coast rfl, fun _ t => (enters .coast (.inl rfl) t (.inl (Bool.eq_false_iff.2 unexpired)) (by simp [blind])).follows false,
        fun _ _ l => Device.takeFailed_linked l c reason⟩
  · next sighted =>
    exact ⟨roles .tracking rfl, fun _ t => (enters .tracking (.inr rfl) t (.inr (Bool.eq_false_iff.2 sighted)) (by simp [sighted])).follows false,
      fun _ _ l => Device.takeFailed_linked l c reason⟩

/-! ## Coast and the blind handoff (R41, R54, R59) -/

theorem Device.Ties.ownerBreak (d : Device) : d.Ties d.ownerBreak := by
  unfold Device.ownerBreak
  split
  · next state =>
    refine ⟨fun r => ?_, fun _ t => ?_, fun _ _ l => l⟩
    · refine Device.RolesAgree.changeState false r.owner_named (r.owner_present.trans (by rw [state]; rfl)) (fun q at_ => ?_)
        (fun q at_ => ?_)
      · exact absurd at_ (r.not_taking (by rw [state]; decide) q)
      · exact absurd at_ (r.not_searching (by rw [state]; rfl) q)
    · have unexpired : d.track.coastExpired = false := Bool.eq_false_iff.2 fun expired => by
        have handoff := (t.expired expired).1
        rw [state] at handoff
        cases handoff
      refine Track.Enters.follows ?_ false
      refine ⟨fun _ was => t.query.trans was, ?_, ?_, rfl, ?_, fun _ => .inl rfl, fun _ => rfl, fun expired => ?_, ?_,
        t.rivals, ?_, fun p at_ => ?_⟩
      · exact t.handoff.trans (by rw [state]; rfl)
      · exact t.search.trans (by rw [state]; rfl)
      · show true = (true && !d.track.coastExpired)
        rw [unexpired]
        rfl
      · exact absurd (unexpired.symm.trans expired) (by decide)
      · exact t.candidate.trans (by rw [state]; rfl)
      · exact t.searchPoint.trans (by rw [state]; rfl)
      · have searching := t.pending p at_
        rw [state] at searching
        cases searching
  · next state =>
    split
    · exact .refl d
    · next sighted =>
      have eyes := Bool.eq_false_iff.2 sighted
      refine Device.Calm.ties ⟨rfl, rfl, rfl, fun t => ?_, fun p => .refl _ _⟩
      have unexpired : d.track.coastExpired = false := Bool.eq_false_iff.2 fun expired =>
        absurd (eyes.symm.trans (t.expired expired).2) (by decide)
      refine ⟨t.query, t.handoff, t.search, rfl, ?_, fun _ => .inr state, fun _ => rfl, fun _ => ⟨state, rfl⟩, t.candidate, t.rivals,
        t.searchPoint, t.pending⟩
      show true = (true && !d.track.coastExpired)
      rw [unexpired]
      rfl
  · exact .refl d

/-- Sight regained in a handoff (R66). -/
theorem Device.Calm.seeAgain {d : Device} (state : d.track.state ≠ .coast) : d.Calm d.seeAgain :=
  ⟨rfl, rfl, rfl, fun t => ⟨t.query, t.handoff, t.search, rfl, rfl, fun at_ => (by cases at_), fun at_ => absurd at_ state,
    fun at_ => (by cases at_), t.candidate, t.rivals, t.searchPoint, t.pending⟩, fun _ => .refl _ _⟩

/-! ## A station becomes the owner (R33, R46, R70) -/

theorem Device.makeOwner_stationState (d : Device) (w q : Port) :
    (d.makeOwner w).stationState q = if q = w then .owner else d.stationState q := by
  show ((d.stations.set w { d.stations.get w with state := .owner }).get q).state = _
  rw [PerPort.get_set, apply_ite Station.state]
  rfl

theorem Device.makeOwner_linked {d : Device} (l : d.Linked) {w : Port} (present : d.stationState w ≠ .absent) :
    (d.makeOwner w).Linked := fun q => by
  rw [Device.makeOwner_stationState]
  show StationState.Links _ ((d.ports.set w (d.ports.get w).endOrder).get q)
  rw [PerPort.get_set]
  by_cases same : q = w
  · rw [if_pos same, if_pos same]
    exact (l w).endOrder ⟨fun at_ => (by cases at_), fun at_ => absurd at_ present⟩
  · rw [if_neg same, if_neg same]
    exact l q

/-- TRACKING entered with an owner and no other role. -/
theorem Device.RolesAgree.crowned {d : Device} {w : Port} (sat : Bool) (owner : d.track.owner = some w)
    (won : d.stationState w = .owner) (others : ∀ q, q ≠ w → (d.stationState q).Roleless) : (d.changeState .tracking sat).RolesAgree := by
  have at_winner : ∀ {q s}, ¬ StationState.Roleless s → d.stationState q = s → q = w := fun held at_ =>
    Decidable.byContradiction fun other => held (at_ ▸ others _ other)
  refine Device.RolesAgree.changeState sat (fun q at_ => ?_) (by rw [owner]; rfl) (fun q at_ => ?_) (fun q at_ => ?_)
  · rw [at_winner StationState.not_roleless_owner at_, owner]
  · rw [at_winner StationState.not_roleless_taking at_, won] at at_
    cases at_
  · rw [at_winner StationState.not_roleless_searching at_, won] at at_
    cases at_

/-- A sighted TRACKING entered, with no candidate and no search. -/
theorem Track.Enters.tracking {t : Track} (query : t.state.owned = true → t.deadlines.query.isSome = true)
    (handoff : t.deadlines.handoff = none) (search : t.deadlines.search = none) (output : t.deadlines.output = none)
    (coast : t.deadlines.coast = none) (blind : t.blind = false) (expired : t.coastExpired = false) (candidate : t.candidate = none)
    (point : t.searchPoint = none) (pending : ∀ p, t.searchPending.get p = false) : t.Enters .tracking := by
  refine ⟨fun _ => query, ?_, ?_, ?_, ?_, ?_, fun at_ => (by cases at_), ?_, ?_, ?_, ?_, fun p at_ => ?_⟩
  · rw [handoff]
    rfl
  · rw [search]
    rfl
  · rw [output, blind]
    rfl
  · rw [coast, blind]
    rfl
  · exact fun at_ => absurd (blind.symm.trans at_) (by decide)
  · exact fun at_ => absurd (expired.symm.trans at_) (by decide)
  · rw [candidate]
    rfl
  · rw [candidate]
    exact fun at_ => (by cases at_)
  · rw [point]
    rfl
  · exact absurd ((pending p).symm.trans at_) (by decide)

/-- What the fields of a state without a search, or a sighted state, are (R21, R55, R69). -/
theorem Track.FollowsState.search_none {t : Track} (h : t.FollowsState) (state : t.state.searches = false) :
    t.deadlines.search = none ∧ t.searchPoint = none ∧ ∀ p, t.searchPending.get p = false := by
  have other : t.state ≠ .search := fun at_ => by rw [at_] at state; cases state
  refine ⟨?_, ?_, fun p => Bool.eq_false_iff.2 fun at_ => other (h.pending p at_)⟩
  · exact Option.not_isSome_iff_eq_none.1 (by rw [h.search, state]; decide)
  · exact Option.not_isSome_iff_eq_none.1 (by rw [h.searchPoint]; exact fun at_ => other (of_decide_eq_true at_))

theorem Track.FollowsState.sighted_none {t : Track} (h : t.FollowsState) (sighted : t.blind = false) :
    t.deadlines.output = none ∧ t.deadlines.coast = none ∧ t.coastExpired = false := by
  refine ⟨?_, ?_, Bool.eq_false_iff.2 fun at_ => absurd (sighted.symm.trans (h.expired at_).2) (by decide)⟩
  · exact Option.not_isSome_iff_eq_none.1 (by rw [h.output, sighted]; decide)
  · exact Option.not_isSome_iff_eq_none.1 (by rw [h.coast, sighted]; exact fun at_ => (by cases at_))

theorem Track.FollowsState.candidate_none {t : Track} (h : t.FollowsState) (state : t.state ≠ .handoff) :
    t.candidate = none ∧ t.deadlines.handoff = none := by
  refine ⟨Option.not_isSome_iff_eq_none.1 ?_, Option.not_isSome_iff_eq_none.1 ?_⟩
  · rw [h.candidate]
    exact fun at_ => state (of_decide_eq_true at_)
  · rw [h.handoff]
    exact fun at_ => state (of_decide_eq_true at_)

theorem Device.releaseFormerOwner_absent (d : Device) (p : Port) :
    d.releaseFormerOwner.stationState p = .absent ↔ d.stationState p = .absent := by
  unfold Device.releaseFormerOwner
  split
  · next o owner =>
    rw [Device.releaseStation_stationState]
    by_cases same : p = o
    · rw [if_pos same, same]
      exact (Device.Calm.standing_state _).1
    · rw [if_neg same]
  · exact Iff.rfl

theorem Device.applyLock_tied (d : Device) (r : TrackResult) (after : TrackState) :
    (d.applyLock r after).track.tied = d.track.tied := by
  unfold Device.applyLock
  split
  · rfl
  · rfl

theorem Device.releaseFormerOwner_tied (d : Device) : d.releaseFormerOwner.track.tied = d.track.tied := by
  unfold Device.releaseFormerOwner
  split
  · next o _ =>
    rw [Device.releaseStation_eq]
    rfl
  · rfl

/-- A change of owner into TRACKING, from what it leaves of the roles, the track and the ports. -/
theorem Device.Ties.crowned {d e : Device} {w : Port} (sat : Bool) (owner : e.track.owner = some w) (won : e.stationState w = .owner)
    (others : d.RolesAgree → ∀ q, q ≠ w → (e.stationState q).Roleless) (enters : d.track.FollowsState → e.track.Enters .tracking)
    (linked : d.Linked → e.Linked) : d.Ties (e.changeState .tracking sat) :=
  ⟨fun r => .crowned sat owner won (others r), fun _ t => (enters t).follows sat, fun _ _ l => (linked l).changeState .tracking sat⟩

/-- The part after a confirmed LOCK, before the change of state (R46). -/
def Device.handedOver (d : Device) (c : Port) : Device :=
  ((d.releaseFormerOwner.makeOwner c).onTrack fun t =>
    { t with
      candidate := none
      deadlines := { t.deadlines with handoff := none }
      counters := { t.counters with handoffsDone := countUp t.counters.handoffsDone } }).raise .handoffDone

theorem Device.handedOver_stationState (d : Device) (c q : Port) :
    (d.handedOver c).stationState q = if q = c then .owner else d.releaseFormerOwner.stationState q :=
  Device.makeOwner_stationState d.releaseFormerOwner c q

theorem Device.handedOver_linked {d : Device} (l : d.Linked) {c : Port} (present : d.stationState c ≠ .absent) :
    (d.handedOver c).Linked := by
  have made : (d.releaseFormerOwner.makeOwner c).Linked := Device.makeOwner_linked ((Device.Calm.releaseFormerOwner d).linked l)
    fun at_ => present ((d.releaseFormerOwner_absent c).1 at_)
  intro q
  exact made q

theorem Device.handedOver_enters {d : Device} (c : Port) (t : d.track.FollowsState) (state : d.track.state = .handoff)
    (sighted : d.track.blind = false) : (d.handedOver c).track.Enters .tracking := by
  obtain ⟨search, point, pending⟩ := t.search_none (by rw [state]; rfl)
  obtain ⟨output, coast, expired⟩ := t.sighted_none sighted
  have tied := d.releaseFormerOwner_tied
  simp only [Track.tied, Prod.mk.injEq] at tied
  obtain ⟨-, -, blind', -, expired', point', pending', deadlines'⟩ := tied
  refine Track.Enters.tracking (fun _ => ?_) rfl ?_ ?_ ?_ (blind'.trans sighted) (expired'.trans expired) rfl (point'.trans point) fun p => ?_
  · exact (congrArg (fun l : Deadlines => l.query.isSome) deadlines').trans (t.query.trans (by rw [state]; rfl))
  · exact (congrArg Deadlines.search deadlines').trans search
  · exact (congrArg Deadlines.output deadlines').trans output
  · exact (congrArg Deadlines.coast deadlines').trans coast
  · exact (congrArg (fun v : PerPort Bool => v.get p) pending').trans (pending p)

/-- The change of owner that ends a handoff (R46). -/
theorem Device.Ties.handOver {d : Device} {c : Port} (sat : Bool) (state : d.track.state = .handoff)
    (candidate : d.track.candidate = some c) (sighted : d.track.blind = false) (present : d.stationState c ≠ .absent) :
    d.Ties ((d.handedOver c).changeState .tracking sat) := by
  have freed := Device.Calm.releaseFormerOwner d
  refine .crowned sat rfl (by rw [Device.handedOver_stationState, if_pos rfl]) (fun r q other => ?_)
    (fun t => Device.handedOver_enters c t state sighted) fun l => Device.handedOver_linked l present
  rw [Device.handedOver_stationState, if_neg other]
  refine ⟨r.released_owner q, fun at_ => ?_, fun at_ => ?_⟩
  · have named := (r.taking_candidate q (freed.role StationState.not_roleless_taking at_)).2
    rw [candidate] at named
    exact other (Option.some.inj named).symm
  · have searches := r.searching_state q (freed.role StationState.not_roleless_searching at_)
    rw [state] at searches
    cases searches

/-- The candidate's confirmed LOCK completes the handoff (R46). -/
theorem Device.Ties.completeHandoff {d : Device} {c : Port} (r : TrackResult) (state : d.track.state = .handoff)
    (candidate : d.track.candidate = some c) (present : d.stationState c ≠ .absent) : d.Ties (d.completeHandoff r c) := by
  have seen : d.Calm (d.seeAgain.applyLock r .tracking) :=
    (Device.Calm.seeAgain (by rw [state]; decide)).trans (.applyLock _ r .tracking)
  have tied := d.seeAgain.applyLock_tied r .tracking
  have stations := (d.seeAgain.applyLock_places r .tracking).1
  have done : d.completeHandoff r c = ((d.seeAgain.applyLock r .tracking).handedOver c).changeState .tracking (d.lockSat r) := rfl
  rw [done]
  generalize d.seeAgain.applyLock r .tracking = e at seen tied stations
  have sighted : e.track.blind = false := congrArg (·.2.2.1) tied
  refine seen.ties.trans (.handOver _ (seen.state.trans state) (seen.candidate.trans candidate) sighted ?_)
  rw [Device.stationState, stations]
  exact present

theorem Device.Ties.confirmTake {d : Device} {c : Port} (r : TrackResult) (state : d.track.state = .handoff)
    (candidate : d.track.candidate = some c) (present : d.stationState c ≠ .absent) : d.Ties (d.confirmTake r c) := by
  by_cases good : d.judgeLock r = .pastGap ∨ d.judgeLock r = .inside
  · rw [Device.confirmTake_of_good good]
    exact .completeHandoff r state candidate present
  · rw [Device.confirmTake_of_bad good]
    have calm := (Device.Calm.lockCounted d r).trans (.releaseStation _ c .wrongTarget)
    exact calm.ties.trans (.failTake (calm.state.trans state) (calm.candidate.trans candidate) _)

/-! ## Relock (R61, R62, R66, R67) -/

/-- The part after an accepted owner LOCK, before a change of state (R61, R66). -/
def Device.relocked (d : Device) (r : TrackResult) (o : Port) (after : TrackState) : Device :=
  ((d.seeAgain.applyLock r after).setStationState o .owner).emptyPathResult

theorem Device.acceptRelock_eq (d : Device) (r : TrackResult) (o : Port) :
    d.acceptRelock r o =
      if d.track.state = .coast then (d.relocked r o .tracking).changeState .tracking (d.lockSat r)
      else d.relocked r o d.track.state := by
  simp only [Device.acceptRelock]
  by_cases coasting : d.track.state = .coast
  · rw [if_pos coasting, if_pos coasting, if_pos coasting]
    rfl
  · rw [if_neg coasting, if_neg coasting, if_neg coasting]
    rfl

theorem Device.relocked_tied (d : Device) (r : TrackResult) (o : Port) (after : TrackState) :
    (d.relocked r o after).track.tied = d.seeAgain.track.tied := d.seeAgain.applyLock_tied r after

theorem Device.relocked_stationState (d : Device) (r : TrackResult) (o q : Port) (after : TrackState) :
    (d.relocked r o after).stationState q = if q = o then .owner else d.stationState q := by
  have stations := (d.seeAgain.applyLock_places r after).1
  have set : (d.relocked r o after).stations = d.stations.set o { d.stations.get o with state := .owner } := by
    show (d.seeAgain.applyLock r after).stations.set o { (d.seeAgain.applyLock r after).stations.get o with state := .owner } = _
    rw [stations]
    rfl
  rw [Device.stationState, set, PerPort.get_set, apply_ite Station.state]
  rfl

theorem Device.relocked_linked {d : Device} (roles : d.RolesAgree) (t : d.track.FollowsState) (l : d.Linked) {o : Port}
    (owner : d.track.owner = some o) (present : d.stationState o ≠ .absent) (r : TrackResult) (after : TrackState) :
    (d.relocked r o after).Linked := fun q => by
  have ports : (d.relocked r o after).ports = d.ports := (d.seeAgain.applyLock_places r after).2.1
  have owned : d.track.state.owned = true := roles.owner_present ▸ by rw [owner]; rfl
  rw [Device.relocked_stationState, ports]
  by_cases same : q = o
  · rw [if_pos same, same]
    refine (l o).restate ⟨fun at_ => (by cases at_), fun at_ => absurd at_ present⟩ (.inl ((l o).no_order (fun at_ => ?_) fun at_ => ?_))
    · have named := (roles.taking_candidate o at_).2
      exact t.rivals (by rw [named]; rfl) (named.trans owner.symm)
    · exact absurd (owned.symm.trans (TrackState.not_owned_of_searches (roles.searching_state o at_))) (by decide)
  · rw [if_neg same]
    exact l q

/-- The roles after an accepted owner LOCK, in a state that has an owner. -/
theorem Device.relocked_role {d : Device} {r : TrackResult} {o q : Port} {after : TrackState} {s : StationState}
    (other : s ≠ .owner) (at_ : (d.relocked r o after).stationState q = s) : d.stationState q = s := by
  rw [Device.relocked_stationState] at at_
  by_cases same : q = o
  · rw [if_pos same] at at_
    exact absurd at_.symm other
  · rwa [if_neg same] at at_

theorem Device.relocked_named {d : Device} (roles : d.RolesAgree) {o : Port} (owner : d.track.owner = some o) (r : TrackResult)
    (after : TrackState) (q : Port) (at_ : (d.relocked r o after).stationState q = .owner) : d.track.owner = some q := by
  rw [Device.relocked_stationState] at at_
  by_cases same : q = o
  · rw [same, owner]
  · rw [if_neg same] at at_
    exact roles.owner_named q at_

theorem Device.Ties.acceptRelock {d : Device} {o : Port} (r : TrackResult) (owner : d.track.owner = some o)
    (present : d.stationState o ≠ .absent) : d.Ties (d.acceptRelock r o) := by
  rw [Device.acceptRelock_eq]
  have fields : ∀ after, (d.relocked r o after).track.state = d.track.state ∧ (d.relocked r o after).track.owner = d.track.owner ∧
      (d.relocked r o after).track.candidate = d.track.candidate := fun after =>
    have tied := d.relocked_tied r o after
    ⟨congrArg (·.1) tied, congrArg (·.2.1) tied, congrArg (·.2.2.2.1) tied⟩
  split
  · next coasting =>
    obtain ⟨-, owner', -⟩ := fields .tracking
    refine ⟨fun roles => ?_, fun _ t => ?_, fun roles t l => (Device.relocked_linked roles t l owner present r .tracking).changeState _ _⟩
    · refine Device.RolesAgree.changeState _ (fun q at_ => owner'.trans (Device.relocked_named roles owner r _ q at_))
        (by rw [owner', owner]; rfl) (fun q at_ => ?_) fun q at_ => ?_
      · exact absurd (Device.relocked_role (by decide) at_) (roles.not_taking (by rw [coasting]; decide) q)
      · exact absurd (Device.relocked_role (by decide) at_) (roles.not_searching (by rw [coasting]; rfl) q)
    · obtain ⟨search, point, pending⟩ := t.search_none (by rw [coasting]; rfl)
      obtain ⟨candidate, handoff⟩ := t.candidate_none (by rw [coasting]; decide)
      have tied := d.relocked_tied r o .tracking
      simp only [Track.tied, Prod.mk.injEq] at tied
      obtain ⟨-, -, blind', candidate', expired', point', pending', deadlines'⟩ := tied
      refine Track.Enters.follows ?_ _
      refine Track.Enters.tracking (fun _ => ?_) ?_ ?_ ?_ ?_ blind' expired' (candidate'.trans candidate) (point'.trans point) fun p => ?_
      · exact (congrArg (fun l : Deadlines => l.query.isSome) deadlines').trans (t.query.trans (by rw [coasting]; rfl))
      · exact (congrArg Deadlines.handoff deadlines').trans handoff
      · exact (congrArg Deadlines.search deadlines').trans search
      · exact congrArg Deadlines.output deadlines'
      · exact congrArg Deadlines.coast deadlines'
      · exact (congrArg (fun v : PerPort Bool => v.get p) pending').trans (pending p)
  · next sighted =>
    obtain ⟨state', owner', candidate'⟩ := fields d.track.state
    refine ⟨fun roles => ⟨fun q at_ => owner'.trans (Device.relocked_named roles owner r _ q at_), ?_, fun q at_ => ?_, fun q at_ => ?_⟩,
      fun _ t => ((Device.Calm.seeAgain sighted).follows t).of_tied (d.relocked_tied r o _),
      fun roles t l => Device.relocked_linked roles t l owner present r _⟩
    · rw [owner', state', roles.owner_present]
    · rw [state', candidate']
      exact roles.taking_candidate q (Device.relocked_role (by decide) at_)
    · rw [state']
      exact roles.searching_state q (Device.relocked_role (by decide) at_)

/-- A take abandoned leaves its candidate without a role (R67). -/
theorem Device.abandonTake_calm (d : Device) : ∃ e, d.Calm e ∧ d.abandonTake.stations = e.stations ∧ d.abandonTake.ports = e.ports ∧
    d.abandonTake.track.owner = d.track.owner ∧ d.abandonTake.track.candidate = none ∧
    ∀ c, d.track.candidate = some c → (e.stationState c).Roleless := by
  cases candidate : d.track.candidate with
  | none =>
    rw [Device.abandonTake_of_none candidate]
    exact ⟨d, .refl d, rfl, rfl, rfl, candidate, fun c at_ => (by cases at_)⟩
  | some c =>
    rw [Device.abandonTake_of_some candidate]
    refine ⟨d.standDown c, .standDown d c, rfl, rfl, rfl, rfl, fun k at_ => ?_⟩
    rw [← Option.some.inj at_, Device.standDown_stationState, if_pos rfl]
    exact (Device.Calm.standing_state _).2

theorem Device.Ties.rejectRelock {d : Device} {o : Port} (owner : d.track.owner = some o) : d.Ties (d.rejectRelock o) := by
  have released : d.Calm (d.releaseStation o .wrongTarget) := .releaseStation d o _
  have unowned := d.releaseStation_roleless o .wrongTarget
  unfold Device.rejectRelock
  generalize d.releaseStation o .wrongTarget = e at released unowned
  obtain ⟨g, calm, stations, ports, -, candidate, stood⟩ := (e.onTrack fun t => { t with owner := none }).abandonTake_calm
  have same : ∀ q, (e.onTrack fun t => { t with owner := none }).abandonTake.stationState q = g.stationState q := fun q => by
    rw [Device.stationState, Device.stationState, stations]
  have role : ∀ {q s}, ¬ StationState.Roleless s →
      (e.onTrack fun t => { t with owner := none }).abandonTake.stationState q = s → e.stationState q = s := fun held at_ =>
    calm.role held ((same _).symm.trans at_)
  refine .enterSearch (fun r q at_ => ?_) (fun r q at_ => ?_) (fun _ => candidate) fun l q => ?_
  · have was := role StationState.not_roleless_owner at_
    have named := r.owner_named q (released.role StationState.not_roleless_owner was)
    rw [owner] at named
    rw [← Option.some.inj named] at was
    exact absurd was unowned.1
  · have was := role StationState.not_roleless_taking at_
    have named := (r.taking_candidate q (released.role StationState.not_roleless_taking was)).2
    exact (stood q (released.candidate.trans named)).2.1 ((same q).symm.trans at_)
  · rw [same, ports]
    exact calm.linked (d := e.onTrack fun t => { t with owner := none }) (released.linked l) q

theorem Device.Ties.confirmRelock {d : Device} {o : Port} (r : TrackResult) (owner : d.track.owner = some o)
    (present : d.stationState o ≠ .absent) : d.Ties (d.confirmRelock r o) := by
  by_cases good : d.judgeLock r = .pastGap ∨ d.judgeLock r = .inside
  · rw [Device.confirmRelock_of_good good]
    exact .acceptRelock r owner present
  · rw [Device.confirmRelock_of_bad good]
    have calm := Device.Calm.lockCounted d r
    exact calm.ties.trans (.rejectRelock (calm.owner.trans owner))

end Sys2Proof.Machine
end

section
/-! PROOFS. The resolution of a search, the routing of results, the track unit's clockwork, ARM and CANCEL under the laws of O5, O6,
O9. -/

namespace Sys2Proof.Machine

/-! ## A SEARCH sent (R31, R32, R69) -/

theorem Device.sendSearch_stationState (d : Device) (p q : Port) (target : Option (Vec3 × Nat)) :
    (d.sendSearch p target).stationState q = if q = p then .searching else d.stationState q := by
  show ((d.stations.set p { d.stations.get p with state := .searching }).get q).state = _
  rw [PerPort.get_set, apply_ite Station.state]
  rfl

/-- An eligible station's port takes an order (R28, R31). -/
theorem Device.Linked.ordered {d : Device} (l : d.Linked) {p : Port} (eligible : d.eligible p = true) {f : OutFrame}
    (order : f.isOrder = true) {s : StationState} (role : s = .taking ∨ s = .searching) : s.Links ((d.ports.get p).place f) := by
  have standby := ((d.eligible_iff p).1 eligible).1
  have linked := l p
  rw [standby] at linked
  exact linked.placeOrder (by decide) (linked.no_order (by decide) (by decide)) order role

theorem Device.Ties.sendSearch {d : Device} {p : Port} (target : Option (Vec3 × Nat)) (eligible : d.eligible p = true)
    (state : d.track.state.searches = true) : d.Ties (d.sendSearch p target) := by
  have unowned := TrackState.not_owned_of_searches state
  have other : d.track.state ≠ .handoff := fun at_ => by rw [at_] at state; cases state
  refine ⟨fun r => ⟨fun q at_ => ?_, r.owner_present, fun q at_ => ?_, fun _ _ => state⟩, fun _ t => t.of_tied rfl, fun _ _ l q => ?_⟩
  · rw [Device.sendSearch_stationState] at at_
    by_cases same : q = p
    · rw [if_pos same] at at_
      cases at_
    · rw [if_neg same] at at_
      exact absurd at_ (r.not_owner unowned q)
  · rw [Device.sendSearch_stationState] at at_
    by_cases same : q = p
    · rw [if_pos same] at at_
      cases at_
    · rw [if_neg same] at at_
      exact absurd at_ (r.not_taking other q)
  · rw [Device.sendSearch_stationState]
    show StationState.Links _ ((d.ports.set p ((d.ports.get p).place (.search target))).get q)
    rw [PerPort.get_set]
    by_cases same : q = p
    · rw [if_pos same, if_pos same]
      exact l.ordered eligible rfl (.inr rfl)
    · rw [if_neg same, if_neg same]
      exact l q

theorem Device.Ties.joinAcquire (d : Device) (p : Port) (was : Bool) : d.Ties (d.joinAcquire p was) := by
  unfold Device.joinAcquire
  split
  · next joins =>
    obtain ⟨acquire, -, -, eligible⟩ := joins
    exact .sendSearch none eligible (by rw [acquire]; rfl)
  · exact .refl d

theorem Device.Ties.sendSearch_endCheck {d : Device} {p : Port} (target : Option (Vec3 × Nat)) (eligible : d.eligible p = true)
    (state : d.track.state.searches = true) : d.Ties (d.sendSearch p target).endCheck := by
  have kept : (d.sendSearch p target).track.state.searches = true := state
  exact (Device.Ties.sendSearch target eligible state).trans (.endCheck kept)

/-! ## The resolution of a search (R33, R70, R71) -/

theorem Device.winner_stationState (d : Device) (w q : Port) :
    ((d.makeOwner w).releaseSearching .notChosen (some w)).stationState q =
      if q = w then .owner else if d.stationState q = .searching then .standby else d.stationState q := by
  rw [Device.winner_eq]
  show ((eachPort fun p => if p = w then { d.stations.get p with state := .owner }
    else if d.stationState p = .searching then { d.stations.get p with state := .standby } else d.stations.get p).get q).state = _
  rw [get_eachPort, apply_ite Station.state, apply_ite Station.state]
  rfl

theorem Device.onTrack_stationState (d : Device) (f : Track → Track) (p : Port) : (d.onTrack f).stationState p = d.stationState p := rfl

/-- The part after a winning LOCK, before the change of state (R33, R70). -/
def Device.searchWon (d : Device) (w : Port) : Device :=
  ((d.makeOwner w).releaseSearching .notChosen (some w)).onTrack fun t =>
    { t with searchPending := .same false, searchPoint := none, deadlines := { t.deadlines with search := none } }

theorem Device.searchWon_enters {d : Device} (w : Port) (t : d.track.FollowsState) (state : d.track.state.searches = true) :
    (d.searchWon w).track.Enters .tracking := by
  have sighted : d.track.blind = false := Bool.eq_false_iff.2 fun blind => by
    rcases t.blind blind with at_ | at_ <;> rw [at_] at state <;> cases state
  obtain ⟨output, coast, expired⟩ := t.sighted_none sighted
  obtain ⟨candidate, handoff⟩ := t.candidate_none fun at_ => by rw [at_] at state; cases state
  have tied : (d.searchWon w).track.tied = (d.track.state, some w, d.track.blind, d.track.candidate, d.track.coastExpired, none, .same false,
      { d.track.deadlines with search := none }) := by
    unfold Device.searchWon
    rw [Device.winner_eq]
    rfl
  simp only [Track.tied, Prod.mk.injEq] at tied
  obtain ⟨state', -, blind', candidate', expired', point', pending', deadlines'⟩ := tied
  refine Track.Enters.tracking (fun owned => ?_) ?_ ?_ ?_ ?_ (blind'.trans sighted) (expired'.trans expired) (candidate'.trans candidate)
    point' fun p => ?_
  · rw [state', TrackState.not_owned_of_searches state] at owned
    cases owned
  · rw [deadlines']
    exact handoff
  · rw [deadlines']
  · rw [deadlines']
    exact output
  · rw [deadlines']
    exact coast
  · rw [pending', PerPort.get_same]

theorem Device.searchWon_linked {d : Device} (l : d.Linked) {w : Port} (present : d.stationState w ≠ .absent) : (d.searchWon w).Linked := by
  have rest : ((d.makeOwner w).releaseSearching .notChosen (some w)).Linked :=
    (Device.Calm.releaseSearching (d.makeOwner w) .notChosen (some w)).linked (Device.makeOwner_linked l present)
  unfold Device.searchWon
  generalize (d.makeOwner w).releaseSearching .notChosen (some w) = e at rest
  exact rest.onTrack _

theorem Device.Ties.searchWon {d : Device} {w : Port} (sat : Bool) (state : d.track.state.searches = true)
    (present : d.stationState w ≠ .absent) : d.Ties ((d.searchWon w).changeState .tracking sat) := by
  have stations : ∀ q, (d.searchWon w).stationState q =
      if q = w then .owner else if d.stationState q = .searching then .standby else d.stationState q := fun q => by
    rw [Device.searchWon, Device.onTrack_stationState, d.winner_stationState]
  have owner : (d.searchWon w).track.owner = some w := by
    unfold Device.searchWon
    rw [Device.winner_eq]
    rfl
  refine .crowned sat owner (by rw [stations, if_pos rfl]) (fun r q other => ?_) (fun t => Device.searchWon_enters w t state)
    fun l => Device.searchWon_linked l present
  rw [stations, if_neg other]
  split
  · exact ⟨by decide, by decide, by decide⟩
  · next searching =>
    exact ⟨r.not_owner (TrackState.not_owned_of_searches state) q,
      r.not_taking (fun at_ => by rw [at_] at state; cases state) q, searching⟩

theorem Device.Ties.winSearch {d : Device} (r : TrackResult) (state : d.track.state.searches = true)
    (present : d.stationState r.source ≠ .absent) : d.Ties (d.winSearch r) :=
  (Device.Calm.reseed d r .tracking).ties.trans
    (Device.Ties.searchWon (d := d.reseed r .tracking) (w := r.source) r.sat state present)

theorem Device.Ties.resolveSearch {d : Device} (r : TrackResult) (state : d.track.state.searches = true)
    (present : d.stationState r.source ≠ .absent) : d.Ties (d.resolveSearch r) := by
  have ended : ∀ e, d.Calm e → d.Ties (e.releaseStation r.source .outOfRadius).endCheck := fun e calm => by
    have freed := calm.trans (.releaseStation e r.source .outOfRadius)
    exact freed.ties.trans (.endCheck (by rw [freed.state, state]))
  unfold Device.resolveSearch
  split
  · exact ended _ (.onTrackCounters d _)
  · split
    · exact .winSearch r state present
    · exact ended _ (.refl d)

/-! ## Routing (R6, R7, R8, R69) -/

theorem Device.Ties.routeResult (d : Device) (r : TrackResult) : d.Ties (d.routeResult r) := by
  rw [Device.routeResult_eq]
  split
  · exact (Device.Calm.onTrackCounters d _).ties
  next present =>
  split
  · next owner =>
    split
    · exact .confirmRelock r owner present
    · exact (Device.Calm.observe d r).ties
  split
  · exact (Device.Calm.onTrackCounters d _).ties
  split
  · next take => exact .confirmTake r take.1 take.2 present
  split
  · next won => exact .winSearch r (by rw [won.1]; rfl) present
  split
  · next sought => exact .resolveSearch r (by rw [sought.1]; rfl) present
  · exact ((Device.Calm.onTrackCounters d _).trans (.sendRelease _ _ _)).ties

/-- A port leaves search_pending (R69, R72). -/
theorem Device.Calm.unpend (d : Device) (p : Port) :
    d.Calm (d.onTrack fun t => { t with searchPending := t.searchPending.set p false }) := by
  refine ⟨rfl, rfl, rfl, fun t => ⟨t.query, t.handoff, t.search, t.output, t.coast, t.blind, t.coasting, t.expired, t.candidate,
    t.rivals, t.searchPoint, fun q at_ => ?_⟩, fun _ => .refl _ _⟩
  have asked : (d.track.searchPending.set p false).get q = true := at_
  rw [PerPort.get_set] at asked
  by_cases same : q = p
  · rw [if_pos same] at asked
    cases asked
  · rw [if_neg same] at asked
    exact t.pending q asked

theorem Device.Ties.searchResult (d : Device) (p : Port) (point : Vec3) : d.Ties (d.searchResult p point) := by
  unfold Device.searchResult
  split
  · next sought =>
    have state : d.track.state.searches = true := by rw [sought.1]; rfl
    have taken := Device.Calm.unpend d p
    have asks : (d.onTrack fun t => { t with searchPending := t.searchPending.set p false }).eligible p = d.eligible p := rfl
    dsimp only
    generalize (d.onTrack fun t => { t with searchPending := t.searchPending.set p false }) = e at taken asks
    have sought' : e.track.state.searches = true := taken.state ▸ state
    split
    · next eligible => exact taken.ties.trans (.sendSearch_endCheck _ (asks.trans eligible) sought')
    · exact taken.ties.trans (.endCheck sought')
  · exact .refl d

/-! ## BREAK, FAIL and link events (R30, R34, R72) -/

theorem Device.Ties.takeBreak (d : Device) (p : Port) : d.Ties (d.takeBreak p) := by
  unfold Device.takeBreak
  split
  · exact .ownerBreak d
  · split
    · next take => exact .failTake take.1 take.2 _
    · exact .refl d

theorem Device.Ties.searcherLeft (d : Device) : d.Ties d.searcherLeft := by
  unfold Device.searcherLeft
  split
  · next state =>
    split
    · exact .refl d
    · next none_ =>
      rw [d.anySearching_iff, not_exists] at none_
      exact .enterLost (by rw [state]; rfl) none_
  · next state => exact .endCheck (by rw [state]; rfl)
  · exact .refl d

theorem Device.Ties.takeFail (d : Device) (p : Port) : d.Ties (d.takeFail p) := by
  unfold Device.takeFail
  split
  · exact .refl d
  split
  · next take =>
    have learned := Device.Calm.learnFailedTake d p
    exact learned.ties.trans (.failTake (learned.state.trans take.1) (learned.candidate.trans take.2) _)
  split
  · exact (Device.Calm.standDown d p).ties.trans (.searcherLeft _)
  · exact .refl d

theorem Device.Ties.leavePending (d : Device) (p : Port) : d.Ties (d.leavePending p) := by
  unfold Device.leavePending
  split
  · next sought =>
    have state : d.track.state.searches = true := by rw [sought.1]; rfl
    exact (Device.Calm.unpend d p).ties.trans (.endCheck state)
  · exact .refl d

theorem Device.Ties.reportLinkDown (d : Device) (p : Port) (before : StationState) : d.Ties (d.reportLinkDown p before) := by
  have ended : d.Calm ((d.onTrack fun t => { t with latePort := if t.latePort = some p then none else t.latePort }).endRole p) :=
    (Device.Calm.onTrack d rfl).trans (.endRole _ p)
  simp only [Device.reportLinkDown]
  refine ended.ties.trans ?_
  split
  · exact .ownerBreak _
  split
  · next take => exact .failTake take.1 take.2 _
  split
  · exact .searcherLeft _
  · exact .leavePending _ p

theorem Device.Ties.orderUndelivered (d : Device) (p : Port) (f : InFlight) : d.Ties (d.orderUndelivered p f) := by
  rw [Device.orderUndelivered]
  split
  · split
    · split
      · next take => exact .failTake take.1 take.2 _
      · exact .refl d
    · exact .takeFail d p
    · exact .refl d
  · exact .refl d

/-! ## The track unit's clockwork (R21, R35, R37, R53, R55, R64, R73) -/

theorem expired_isSome {now : Word} {deadline : Option Word} (h : expired now deadline = true) : deadline.isSome = true := by
  obtain ⟨t, rfl, -⟩ := (expired_iff now deadline).1 h
  rfl

/-- The places of the ports, beside inverse requests. -/
theorem Device.Calm.placeQueries (d : Device) (point : Vec3) : d.Calm (d.placeQueries point) := by
  have fold : ∀ (l : List Port) (e : Device), d.Calm e → d.Calm (l.foldl (fun d p =>
      if d.eligible p then d.onXfu fun x => x.placeInverse ⟨p, .query, point⟩ else d) e) := by
    intro l
    induction l with
    | nil => exact fun e calm => calm
    | cons p l ih =>
      intro e calm
      refine ih _ ?_
      dsimp only
      split
      · exact calm.trans (.onXfu e _)
      · exact calm
  exact fold allPorts d (.refl d)

theorem Device.Ties.queryExpires (d : Device) : d.Ties d.queryExpires := by
  unfold Device.queryExpires
  split
  · next late =>
    have queried : d.Calm (d.placeQueries d.queryPoint) := .placeQueries d _
    have track : (d.placeQueries d.queryPoint).track = d.track := (congrArg Device.track (d.placeQueries_eq _)).trans rfl
    simp only [Device.queryTick]
    generalize d.placeQueries d.queryPoint = e at queried track
    have asked : d.Calm (e.onDeadlines fun l => { l with query := some (timeAfter d.tb d.params.queryInterval) }) := by
      refine ⟨queried.state, queried.owner, queried.candidate, fun t => ?_, queried.places⟩
      have was := queried.follows t
      have owned : true = e.track.state.owned := by
        rw [track, ← t.query]
        exact (expired_isSome late).symm
      exact ⟨owned, was.handoff, was.search, was.output, was.coast, was.blind, was.coasting, was.expired, was.candidate, was.rivals,
        was.searchPoint, was.pending⟩
    split
    · next coasting => exact asked.ties.trans (.tryHandoff (.inr (asked.state.trans coasting)))
    · exact asked.ties
  · exact .refl d

theorem Device.Ties.outputExpires (d : Device) : d.Ties d.outputExpires := by
  unfold Device.outputExpires
  split
  · next late =>
    have some_ := expired_isSome (Bool.and_eq_true _ _ ▸ late).1
    refine Device.Calm.ties ⟨rfl, rfl, rfl, fun t => ?_, fun _ => .refl _ _⟩
    have output : true = d.track.blind := some_.symm.trans t.output
    exact ⟨t.query, t.handoff, t.search, output, t.coast, t.blind, t.coasting, t.expired, t.candidate, t.rivals, t.searchPoint, t.pending⟩
  · exact .refl d

theorem Device.Ties.timeoutTake {d : Device} {c : Port} (state : d.track.state = .handoff) (candidate : d.track.candidate = some c) :
    d.Ties (d.timeoutTake c) := by
  have calm : d.Calm (((d.releaseStation c .timeout).learnFailedTake c).onTrack fun t => { t with latePort := some c }) :=
    ((Device.Calm.releaseStation d c .timeout).trans (.learnFailedTake _ c)).trans (.onTrack _ rfl)
  exact calm.ties.trans (.failTake (calm.state.trans state) (calm.candidate.trans candidate) _)

theorem Device.Ties.handoffExpires (d : Device) : d.Ties d.handoffExpires := by
  unfold Device.handoffExpires
  split
  · split
    · next state candidate => exact .timeoutTake state candidate
    · exact .refl d
  · exact .refl d

theorem Device.Ties.coastExpires (d : Device) : d.Ties d.coastExpires := by
  unfold Device.coastExpires
  split
  · next late =>
    dsimp only
    split
    · next coasting =>
      have other : d.track.state ≠ .handoff := by rw [coasting]; decide
      exact .enterSearch (fun r => r.owner_named) (fun r => r.not_taking other) (fun t => (t.candidate_none other).1) fun l => l
    · next handoff =>
      refine Device.Calm.ties ⟨rfl, rfl, rfl, fun t => ?_, fun _ => .refl _ _⟩
      have eyes : d.track.blind = true := (Bool.and_eq_true _ _ ▸ (t.coast.symm.trans (expired_isSome late))).1
      refine ⟨t.query, t.handoff, t.search, t.output, ?_, t.blind, t.coasting, fun _ => ⟨handoff, eyes⟩, t.candidate, t.rivals,
        t.searchPoint, t.pending⟩
      show false = (d.track.blind && !true)
      rw [Bool.not_true, Bool.and_false]
    · exact .refl d
  · exact .refl d

theorem Device.freed_stationState (d : Device) (who : Port → Bool) (reason : ReleaseReason) (p : Port) :
    (d.freed who reason).stationState p = if who p then (d.stations.get p).standing.state else d.stationState p := by
  show ((eachPort fun p => if who p then (d.stations.get p).standing else d.stations.get p).get p).state = _
  rw [get_eachPort, apply_ite Station.state]
  rfl

theorem Device.releaseSearching_not_searching (d : Device) (reason : ReleaseReason) (p : Port) :
    (d.releaseSearching reason none).stationState p ≠ .searching := by
  rw [Device.releaseSearching_eq, Device.freed_stationState]
  split
  · exact (Device.Calm.standing_state _).2.2.2
  · next other => exact fun searching => other (decide_eq_true ⟨searching, by simp⟩)

theorem Device.Ties.searchExpires (d : Device) : d.Ties d.searchExpires := by
  unfold Device.searchExpires
  have lost : d.track.state.searches = true → d.Ties (d.releaseSearching .searchEnd none).enterLost := fun state => by
    have freed := Device.Calm.releaseSearching d .searchEnd none
    exact freed.ties.trans (.enterLost (by rw [freed.state, state]) (d.releaseSearching_not_searching _))
  split
  · split
    · next state => exact lost (by rw [state]; rfl)
    · next state => exact lost (by rw [state]; rfl)
    · exact .refl d
  · exact .refl d

theorem Device.Ties.pathResultArrives (d : Device) (p : Port) (r : PathResult) : d.Ties (d.pathResultArrives p r) := by
  unfold Device.pathResultArrives
  have kept : d.Calm (d.onTrack fun t => { t with pathResult := r }) := .onTrack d rfl
  dsimp only
  split
  · split
    · next tracking =>
      split
      · exact kept.ties.trans (.tryHandoff (.inl tracking))
      · exact (kept.trans (.onTrack _ rfl)).ties
    · exact kept.ties
  · exact .refl d

theorem Device.Ties.handBackScan (d : Device) : d.Ties d.handBackScan := by
  unfold Device.handBackScan
  split
  · exact .refl d
  · split
    · exact (Device.Calm.onSmu d _).ties.trans (.pathResultArrives _ _ _)
    · exact .refl d

/-! ## ARM, CANCEL, HANDOFF_TO (R31, R43, R56) -/

/-- The part with the SEARCH of an ARM sent, before the change of state (R31). -/
def Device.armed (d : Device) (mask : PerPort Bool) : Device :=
  { d with
    stations := eachPort fun p =>
      if mask.get p && d.eligible p then { d.stations.get p with state := .searching } else d.stations.get p
    ports := eachPort fun p =>
      if mask.get p && d.eligible p then { d.ports.get p with control := (d.ports.get p).control ++ [.search none] }
      else d.ports.get p
    track := { d.track with
      acquireMask := mask
      latePort := none
      coastExpired := false
      noCandidate := false
      currentOrder := eachPort fun p => if mask.get p && d.eligible p then some .search else d.track.currentOrder.get p
      deadlines := { d.track.deadlines with search := some (d.tb + BitVec.ofNat 32 d.params.searchTime) } } }

theorem Device.armed_stationState (d : Device) (mask : PerPort Bool) (p : Port) :
    (d.armed mask).stationState p = if mask.get p && d.eligible p then .searching else d.stationState p := by
  show ((eachPort fun p =>
    if mask.get p && d.eligible p then { d.stations.get p with state := .searching } else d.stations.get p).get p).state = _
  rw [get_eachPort, apply_ite Station.state]
  rfl

theorem Device.armed_linked {d : Device} (l : d.Linked) (mask : PerPort Bool) : (d.armed mask).Linked := fun p => by
  have port : (d.armed mask).ports.get p =
      if mask.get p && d.eligible p then (d.ports.get p).place (.search none) else d.ports.get p := get_eachPort _ p
  rw [Device.armed_stationState, port]
  by_cases sent : (mask.get p && d.eligible p) = true
  · rw [if_pos sent, if_pos sent]
    exact l.ordered (Bool.and_eq_true _ _ ▸ sent).2 rfl (.inr rfl)
  · rw [if_neg sent, if_neg sent]
    exact l p

theorem Device.Ties.armWith {d : Device} (state : d.track.state = .idle ∨ d.track.state = .lost) (mask : PerPort Bool) :
    d.Ties (d.armWith mask) := by
  have still : d.track.state.owned = false ∧ d.track.state ≠ .handoff ∧ d.track.state ≠ .coast ∧ d.track.state ≠ .search := by
    rcases state with at_ | at_ <;> rw [at_] <;> decide
  obtain ⟨unowned, handoff, coast, search⟩ := still
  have role : ∀ {q s}, s ≠ .searching → (d.armed mask).stationState q = s → d.stationState q = s := by
    intro q s other at_
    rw [Device.armed_stationState] at at_
    split at at_
    · exact absurd at_.symm other
    · exact at_
  have armed : d.armWith mask = (d.armed mask).changeState .acquire false := d.armWith_eq mask
  rw [armed]
  refine ⟨fun r => ?_, fun _ t => ?_, fun _ _ l => (Device.armed_linked l mask).changeState .acquire false⟩
  · refine Device.RolesAgree.changeState false (fun q at_ => ?_) (r.owner_present.trans unowned) (fun q at_ => ?_) fun _ _ => rfl
    · exact absurd (role (by decide) at_) (r.not_owner unowned q)
    · exact absurd (role (by decide) at_) (r.not_taking handoff q)
  · have sighted : d.track.blind = false := Bool.eq_false_iff.2 fun blind => (t.blind blind).elim coast handoff
    obtain ⟨output, coasts, -⟩ := t.sighted_none sighted
    obtain ⟨candidate, handoffs⟩ := t.candidate_none handoff
    refine Track.Enters.follows ?_ false
    refine ⟨fun owned => (by cases owned), ?_, rfl, t.output, ?_, ?_, fun at_ => (by cases at_), fun at_ => (by cases at_), ?_, t.rivals,
      ?_, fun p at_ => absurd (t.pending p at_) search⟩
    · exact congrArg Option.isSome handoffs
    · show d.track.deadlines.coast.isSome = (d.track.blind && !false)
      rw [coasts, sighted]
      rfl
    · exact fun blind => absurd (sighted.symm.trans blind) (by decide)
    · exact congrArg Option.isSome candidate
    · exact t.searchPoint.trans (decide_eq_false search)

/-- The part with every role released, before the change of state (R56). -/
def Device.cancelled (d : Device) : Device :=
  (d.freed (fun p =>
    decide (d.track.owner = some p) || decide (d.track.candidate = some p) || decide (d.stationState p = .searching)) .cancelled).onTrack
    fun t =>
      { t with
        owner := none
        candidate := none
        latePort := none
        searchPoint := none
        searchPending := .same false
        blind := false
        coastExpired := false
        noCandidate := false
        deadlines := .absent }

theorem Device.cancelTrack_eq (d : Device) : d.cancelTrack = d.cancelled.changeState .idle false := by
  simp only [Device.cancelTrack]
  rw [Device.cancelReleased_eq]
  rfl

theorem Device.RolesAgree.cancelled {d : Device} (r : d.RolesAgree) (p : Port) : (d.cancelled.stationState p).Roleless := by
  have state : d.cancelled.stationState p = _ := d.freed_stationState _ .cancelled p
  rw [state]
  split
  · exact (Device.Calm.standing_state _).2
  · next none_ =>
    simp only [Bool.or_eq_true, decide_eq_true_eq, not_or] at none_
    obtain ⟨⟨owner, candidate⟩, searching⟩ := none_
    exact ⟨fun at_ => owner (r.owner_named p at_), fun at_ => candidate (r.taking_candidate p at_).2, searching⟩

theorem Device.Ties.cancelTrack (d : Device) : d.Ties d.cancelTrack := by
  rw [Device.cancelTrack_eq]
  refine ⟨fun r => ?_, fun _ _ => ?_, fun _ _ l => ?_⟩
  · refine Device.RolesAgree.changeState false (fun p at_ => ?_) rfl (fun p at_ => ?_) fun p at_ => ?_
    · exact absurd at_ (r.cancelled p).1
    · exact absurd at_ (r.cancelled p).2.1
    · exact absurd at_ (r.cancelled p).2.2
  · refine Track.Enters.follows ?_ false
    exact ⟨fun owned => (by cases owned), rfl, rfl, rfl, rfl, fun at_ => (by cases at_), fun at_ => (by cases at_),
      fun at_ => (by cases at_), rfl, fun at_ => (by cases at_), rfl,
      fun p at_ => absurd ((PerPort.get_same false p).symm.trans at_) (by decide)⟩
  · have freed := (Device.Calm.freed d (fun p =>
      decide (d.track.owner = some p) || decide (d.track.candidate = some p) || decide (d.stationState p = .searching)) .cancelled).linked l
    exact (freed.onTrack _).changeState .idle false

theorem Device.Ties.judgeArm {d e : Device} (h : d.judgeArm = .taken e ∨ d.judgeArm = .held e) : d.Ties e := by
  simp only [Device.judgeArm] at h
  split_ifs at h with state mask
  · simp at h
  · obtain rfl : d.armWith _ = e := by simpa using h
    refine .armWith ?_ _
    tauto
  · simp at h

theorem Device.Ties.judgeCancel {d e : Device} (h : d.judgeCancel = .taken e ∨ d.judgeCancel = .held e) : d.Ties e := by
  unfold Device.judgeCancel at h
  split at h
  · obtain rfl : d = e := by simpa using h
    exact .refl d
  · obtain rfl : d.cancelTrack = e := by simpa using h
    exact .cancelTrack d

theorem Device.Ties.judgeHandoffTo {d e : Device} (h : d.judgeHandoffTo = .taken e ∨ d.judgeHandoffTo = .held e) : d.Ties e := by
  cases port : portOfWord d.sbi.parameters.p0 with
  | none => simp [Device.judgeHandoffTo, port] at h
  | some p =>
    rw [Device.judgeHandoffTo_of_port port] at h
    split at h
    · next good =>
      obtain rfl : d.startHandoff p = e := by simpa using h
      obtain ⟨eligible, other⟩ := Device.grade_ne_ineligible (d := d) (p := p) fun at_ => by rw [at_] at good; cases good.2
      exact .startHandoff eligible other (.inl good.1)
    · simp at h

end Sys2Proof.Machine
end

section
/-! PROOFS. The stations and the links under the laws of O5, O6, O9, and the three laws over every step. -/

namespace Sys2Proof.Machine

/-! ## Ports (R115, R146 to R148, R153) -/

namespace StationState.Links

variable {s s' : StationState} {l : LinkPort}

/-- The framing of an up port whose frames and training stay (R145, R147, R148). -/
theorem framing_of (h : s.Links l) {k : LinkPort} (training : k.training = l.training)
    (inFrame : ∀ chars, k.inFrame = some chars → k.state = .accepting ∧ (dataBytes chars).length < 29)
    (sending : k.sending = l.sending) : k.Framing :=
  ⟨training ▸ h.framing.training, inFrame, fun f n at_ => h.framing.sent f n (sending ▸ at_)⟩

/-- An up port that takes up one of its up states, with a frame begun or grown only in ACCEPTING (R148, R153). -/
theorem receiving (h : s.Links l) (was : l.state ≠ .down) {k : LinkPort} (up : k.state ≠ .down) (control : k.control = l.control)
    (training : k.training = l.training) (sending : k.sending = l.sending)
    (inFrame : ∀ chars, k.inFrame = some chars → k.state = .accepting ∧ (dataBytes chars).length < 29) : s.Links k :=
  h.of_up_same was up control (h.framing_of training inFrame sending)

/-- The training count of a DOWN port (R147). -/
theorem train (h : s.Links l) {n : Nat} (below : n < 8) : s.Links { l with training := n } where
  down := h.down
  quietDown := h.quietDown
  orders := h.orders
  releases := h.releases
  passes := h.passes
  kinds := h.kinds
  role := h.role
  framing := ⟨below, h.framing.collected, h.framing.sent⟩

/-- A port that comes up from DOWN, its station then without a role (R107, R147). -/
theorem linkUp (h : s.Links l) (was : l.state = .down) (present : s' ≠ .absent) :
    s'.Links { l with
      state := .accepting
      training := 0
      inFrame := none
      inRefused := false
      idreqPending := true } := by
  obtain ⟨control, -, sending, -⟩ := h.quietDown was
  have none_ : l.orders = 0 := by rw [LinkPort.orders, control]; rfl
  exact ⟨⟨fun at_ => (by cases at_), fun at_ => absurd at_ present⟩, fun at_ => (by cases at_), h.orders, h.releases, h.passes, h.kinds,
    .inl none_, ⟨Nat.zero_lt_succ 7, fun _ at_ => (by cases at_), h.framing.sent⟩⟩

end StationState.Links

/-! ## Calm changes of the stations and the links -/

namespace Device.Calm

variable {d : Device}

/-- A change of one port that its law allows where it stands. -/
theorem onPortAt (d : Device) (p : Port) {f : LinkPort → LinkPort}
    (links : (d.stationState p).Links (d.ports.get p) → (d.stationState p).Links (f (d.ports.get p))) : d.Calm (d.onPort p f) :=
  of_place p (s := d.stations.get p) rfl (PerPort.set_get _ _).symm rfl ⟨.inl rfl, links⟩

/-- A change of one port that its law does not read. -/
theorem onPortSame (d : Device) (p : Port) {f : LinkPort → LinkPort} (same : ∀ l, (f l).linked = l.linked) : d.Calm (d.onPort p f) :=
  onPort d p fun _ l h => h.of_linked (same l)

theorem onStationCounters (d : Device) (p : Port) (f : StationCounters → StationCounters) : d.Calm (d.onStationCounters p f) :=
  onStation d p fun _ => rfl

theorem forgetBearing (d : Device) (p : Port) : d.Calm (d.forgetBearing p) :=
  (onStation d p (f := fun s => { s with query := none, answer := none }) fun _ => rfl).trans (onSmu _ _)

theorem joinIngest (d : Device) (p : Port) (e : IngestEntry) : d.Calm (d.joinIngest p e) := by
  simp only [Device.joinIngest]
  split
  · exact (onXfu d _).trans (onStationCounters _ p _)
  · exact onXfu d _

theorem deliverObservation (d : Device) (p : Port) (kind : ReportKind) (seq : Byte) (r : ObsReport) :
    d.Calm (d.deliverObservation p kind seq r) := by
  unfold Device.deliverObservation
  split
  · exact ((joinIngest d p _).trans (onStationCounters _ p _)).trans (sendLearning _ _)
  · exact (onStationCounters d p _).trans (sendLearning _ _)

theorem deliverBearing (d : Device) (p : Port) (r : BearingReport) : d.Calm (d.deliverBearing p r) := by
  unfold Device.deliverBearing
  split
  · exact (onStationCounters d p _).trans (onSmu _ _)
  · exact onStationCounters d p _

theorem deliverIdentity (d : Device) (p : Port) (i : Identity) : d.Calm (d.deliverIdentity p i) :=
  (onStation d p (f := fun s => { s with identity := some i }) fun _ => rfl).trans (raise _ _)

theorem deliverPass (d : Device) (p : Port) (payload : List Byte) : d.Calm (d.deliverPass p payload) := by
  unfold Device.deliverPass
  split
  · exact onPortSame d p fun _ => rfl
  · exact (onStation d p (f := fun s => { s with mailbox := ⟨payload, true⟩ }) fun _ => rfl).trans (raise _ _)

theorem queryResult (d : Device) (p : Port) (point : Vec3) (gen : Option Byte) : d.Calm (d.queryResult p point gen) := by
  simp only [Device.queryResult]
  split
  · exact refl d
  · next good =>
    have present : d.stationState p ≠ .absent := fun at_ => good (.inl at_)
    refine (onStation d p (f := fun s => { s with
      tagCounter := (d.stations.get p).tagCounter + 1
      query := some ⟨(d.stations.get p).tagCounter + 1, point, d.tb⟩ }) fun _ => rfl).trans (onPortAt _ p fun h => ?_)
    have state : (d.onStation p fun s => { s with
        tagCounter := (d.stations.get p).tagCounter + 1
        query := some ⟨(d.stations.get p).tagCounter + 1, point, d.tb⟩ }).stationState p = d.stationState p := by
      rw [Device.stationState, Device.onStation_stations, PerPort.get_set_self]
      rfl
    have up := h.up (state ▸ present)
    exact h.receiving up up rfl rfl rfl h.framing.collected

theorem storeLookup (d : Device) (p : Port) : d.Calm (d.storeLookup p) := by
  unfold Device.storeLookup
  split
  · split
    · dsimp only
      split
      · exact onSmu d _
      · exact (onSmu d _).trans (onStation _ p fun _ => rfl)
    · exact refl d
  · exact refl d

/-- A transform change leaves a station its role, and STANDBY or UNCONFIGURED where it has none (R112, R113). -/
theorem onTransform (d : Device) (p : Port) {f : Station → Station}
    (state : (f (d.stations.get p)).state = d.stationState p ∨
      ((d.stationState p = .unconfigured ∨ d.stationState p = .standby) ∧
        ((f (d.stations.get p)).state = .unconfigured ∨ (f (d.stations.get p)).state = .standby))) : d.Calm (d.onStation p f) := by
  refine of_place p (l := d.ports.get p) rfl rfl (PerPort.set_get _ _).symm ?_
  rcases state with same | ⟨was, now⟩
  · exact ⟨.inl same, fun h => same ▸ h⟩
  · have plain : ∀ s : StationState, s = .unconfigured ∨ s = .standby → s.Roleless ∧ s ≠ .absent := by
      rintro s (rfl | rfl) <;> exact ⟨⟨by decide, by decide, by decide⟩, by decide⟩
    obtain ⟨before, present⟩ := plain _ was
    obtain ⟨after, present'⟩ := plain _ now
    exact ⟨.inr after, fun h => h.restate ⟨fun at_ => absurd at_ present', fun at_ => absurd at_ present⟩
      (.inl (h.no_order before.2.1 before.2.2))⟩

/-- A port that enters DOWN with its station ABSENT (R108, R146). -/
theorem enterDown (d : Device) (p : Port) {f : Station → Station} (absent : (f (d.stations.get p)).state = .absent) :
    d.Calm ((d.onPort p LinkPort.enterDown).onStation p f) :=
  of_place p rfl rfl rfl ⟨.inr (absent ▸ ⟨by decide, by decide, by decide⟩), fun _ => absent ▸ .enterDown _⟩

/-- A port that comes up with its station without a role (R107, R147). -/
theorem linkUp {p : Port} (down : (d.ports.get p).state = .down) {s : StationState} (plain : s.Roleless) (present : s ≠ .absent) :
    d.Calm ((d.onPort p fun l =>
      { l with
        state := .accepting
        training := 0
        inFrame := none
        inRefused := false
        idreqPending := true }).setStationState p s) :=
  of_place p rfl rfl rfl ⟨.inr plain, fun h => h.linkUp down present⟩

end Device.Calm

/-! ## Quiet settings and transforms (R112, R113, R115) -/

theorem Device.Ties.setQuiet (d : Device) (p : Port) (value : Bool) : d.Ties (d.setQuiet p value) := by
  have set : d.Calm (d.onStation p fun s => { s with quiet := value, quietPending := none }) := .onStation d p fun _ => rfl
  simp only [Device.setQuiet]
  split
  · exact (set.trans (.onPort _ p fun _ _ h => h.emptySlot)).ties
  · exact set.ties.trans (.joinAcquire _ p _)

theorem Device.Ties.quietBoundary (d : Device) (p : Port) : d.Ties (d.quietBoundary p) := by
  unfold Device.quietBoundary
  split
  · exact .setQuiet d p _
  · exact .refl d

theorem Device.Ties.requestQuiet (d : Device) (p : Port) (value : Bool) : d.Ties (d.requestQuiet p value) := by
  simp only [Device.requestQuiet]
  split
  · exact .refl d
  split
  · exact Device.Calm.ties (.onStation d p fun _ => rfl)
  · exact .setQuiet d p value

theorem Device.Ties.loadTransform (d : Device) (p : Port) : d.Ties (d.loadTransform p) := by
  simp only [Device.loadTransform]
  refine Device.Ties.trans (Device.Calm.ties ?_) (.joinAcquire _ p _)
  refine ((Device.Calm.onXfu d _).trans (.onTransform _ p ?_)).trans (.forgetBearing _ p)
  by_cases was : (d.stations.get p).state = .unconfigured
  · exact .inr ⟨.inl was, .inr (if_pos was)⟩
  · exact .inl (if_neg was)

theorem Device.Ties.unloadTransform (d : Device) (p : Port) : d.Ties (d.unloadTransform p) := by
  simp only [Device.unloadTransform]
  refine Device.Ties.trans (Device.Calm.ties ?_) (.leavePending _ p)
  refine ((Device.Calm.onXfu d _).trans (.onTransform _ p ?_)).trans (.forgetBearing _ p)
  by_cases was : (d.stations.get p).state = .standby
  · exact .inr ⟨.inr was, .inl (if_pos was)⟩
  · exact .inl (if_neg was)

/-! ## Link up and link down (R107, R108, R146, R147) -/

theorem Device.Ties.linkUp {d : Device} {p : Port} (down : (d.ports.get p).state = .down) : d.Ties (d.linkUp p) := by
  refine Device.Ties.trans (Device.Calm.ties ((Device.Calm.linkUp down ?_ ?_).trans (.raise _ .stationChange))) (.joinAcquire _ p false)
  · split
    · exact ⟨by decide, by decide, by decide⟩
    · exact ⟨by decide, by decide, by decide⟩
  · split
    · decide
    · decide

theorem Device.Ties.silenceExpires (d : Device) (p : Port) : d.Ties (d.silenceExpires p) := by
  unfold Device.silenceExpires
  split
  · exact (Device.Calm.onPort d p fun _ _ h => h.train (Nat.zero_lt_succ 7)).ties
  · have gone : d.Calm (((d.onPort p LinkPort.enterDown).onStation p fun s => { s with state := .absent, identity := none }).forgetBearing p) :=
      (Device.Calm.enterDown d p rfl).trans (.forgetBearing _ p)
    exact gone.ties.trans ((Device.Ties.quietBoundary _ p).trans ((Device.Calm.raise _ _).ties.trans (.reportLinkDown _ p _)))

theorem Device.Ties.silenceTimeout (d : Device) (p : Port) : d.Ties (d.silenceTimeout p) := by
  unfold Device.silenceTimeout
  split
  · exact .silenceExpires d p
  · exact .refl d

/-! ## The end of a send (R157 to R159) -/

theorem Device.Ties.sendDelivered (d : Device) (p : Port) : d.Ties (d.sendDelivered p) :=
  (Device.Calm.onPort d p fun _ _ h => h.endSend _ _ _).ties.trans (.quietBoundary _ p)

theorem Device.Ties.sendUndelivered (d : Device) (p : Port) (f : InFlight) : d.Ties (d.sendUndelivered p f) :=
  (Device.Calm.onPort d p fun _ _ h => h.endSend _ _ _).ties.trans ((Device.Ties.quietBoundary _ p).trans (.orderUndelivered _ p f))

theorem Device.Ties.takeAnswer (d : Device) (p : Port) (a : LinkAnswer) : d.Ties (d.takeAnswer p a) := by
  unfold Device.takeAnswer
  split
  · split
    · exact .sendDelivered d p
    · exact .sendUndelivered d p _
  · exact Device.Calm.ties (.onPortSame d p fun _ => rfl)

theorem Device.Ties.answerTimeout (d : Device) (p : Port) : d.Ties (d.answerTimeout p) := by
  unfold Device.answerTimeout Device.answerExpires
  split
  · split
    · exact .sendUndelivered d p _
    · exact .refl d
  · exact .refl d

/-! ## The receiving half (R147 to R153) -/

theorem Device.Ties.deliver (d : Device) (p : Port) (f : GoodFrame) : d.Ties (d.deliver p f) := by
  unfold Device.deliver
  split
  · exact (Device.Calm.deliverObservation d p _ _ _).ties
  · exact (Device.Calm.deliverObservation d p _ _ _).ties
  · unfold Device.deliverBreak
    split
    · exact (Device.Calm.sendLearning d _).ties.trans (.takeBreak _ p)
    · exact .takeBreak d p
  · exact (Device.Calm.deliverBearing d p _).ties
  · exact .takeFail d p
  · exact (Device.Calm.deliverIdentity d p _).ties
  · exact (Device.Calm.deliverPass d p _).ties

theorem Device.Ties.endFrame {d : Device} {p : Port} (accepting : (d.ports.get p).state = .accepting) (chars : List LineChar)
    (ending : FrameEnd) : d.Ties (d.endFrame p chars ending) := by
  have up : (d.ports.get p).state ≠ .down := by rw [accepting]; decide
  unfold Device.endFrame
  split
  · refine ((Device.Calm.onPortAt d p fun h => ?_).trans (.raise _ _)).ties
    exact h.receiving up (fun at_ => (by cases at_)) rfl rfl rfl fun _ at_ => (by cases at_)
  · refine (Device.Calm.onPortAt d p fun h => ?_).ties
    exact h.receiving up up rfl rfl rfl fun _ at_ => (by cases at_)
  · refine (Device.Calm.onPortAt d p fun h => ?_).ties.trans (.deliver _ p _)
    exact h.receiving up up rfl rfl rfl fun _ at_ => (by cases at_)

theorem Device.Ties.trainOn {d : Device} {p : Port} (down : (d.ports.get p).state = .down) (c : LineChar) : d.Ties (d.trainOn p c) := by
  unfold Device.trainOn
  split
  · split
    · next below => exact (Device.Calm.onPortAt d p fun h => h.train below).ties
    · exact .linkUp down
  · exact (Device.Calm.onPort d p fun _ _ h => h.train (Nat.zero_lt_succ 7)).ties

theorem Device.Ties.refuseOn {d : Device} {p : Port} (up : (d.ports.get p).state ≠ .down) (c : LineChar) : d.Ties (d.refuseOn p c) := by
  unfold Device.refuseOn
  split
  · exact (Device.Calm.onPortAt d p fun h => h.receiving up up rfl rfl rfl h.framing.collected).ties
  · exact Device.Calm.ties (.onPortSame d p fun _ => rfl)
  · refine Device.Ties.trans (Device.Calm.ties (.onPortAt d p fun h => ?_)) (.joinAcquire _ p _)
    exact h.receiving up (fun at_ => (by cases at_)) rfl rfl rfl fun _ at_ => (by cases at_)
  · exact .takeAnswer d p _
  · exact .takeAnswer d p _
  · exact .refl d
  · exact .refl d

theorem Device.Ties.betweenOn {d : Device} {p : Port} (accepting : (d.ports.get p).state = .accepting) (c : LineChar) :
    d.Ties (d.betweenOn p c) := by
  have up : (d.ports.get p).state ≠ .down := by rw [accepting]; decide
  unfold Device.betweenOn
  split
  · refine (Device.Calm.onPortAt d p fun h => h.receiving up up rfl rfl rfl fun chars at_ => ?_).ties
    rw [← Option.some.inj at_]
    exact ⟨accepting, by decide⟩
  · exact .takeAnswer d p _
  · exact .takeAnswer d p _
  · exact .refl d
  · exact .refl d
  · exact .refl d
  · exact .refl d

/-- A frame ended by a SOF fails (R149). -/
theorem judgeFrame_sof (chars : List LineChar) : ∃ cause position, judgeFrame chars .sof = .failed cause position := by
  unfold judgeFrame
  dsimp only
  split
  · exact ⟨_, _, rfl⟩
  · split
    · exact ⟨_, _, rfl⟩
    · exact ⟨_, _, if_pos rfl⟩

theorem Device.endFrame_sof (d : Device) (p : Port) (chars : List LineChar) :
    ((d.endFrame p chars .sof).ports.get p).state = .refusing := by
  obtain ⟨cause, position, failed⟩ := judgeFrame_sof chars
  rw [Device.endFrame, failed]
  exact congrArg LinkPort.state (PerPort.get_set_self _ p _)

theorem Device.Ties.collect {d : Device} {p : Port} (accepting : (d.ports.get p).state = .accepting) (chars : List LineChar)
    (c : LineChar) : d.Ties (d.collect p chars c) := by
  have up : (d.ports.get p).state ≠ .down := by rw [accepting]; decide
  simp only [Device.collect]
  split
  · exact .endFrame accepting _ _
  · next few =>
    refine (Device.Calm.onPortAt d p fun h => h.receiving up up rfl rfl rfl fun grown at_ => ?_).ties
    rw [← Option.some.inj at_]
    exact ⟨accepting, Nat.lt_of_not_le few⟩

theorem Device.Ties.inFrameOn {d : Device} {p : Port} (accepting : (d.ports.get p).state = .accepting) (chars : List LineChar)
    (c : LineChar) : d.Ties (d.inFrameOn p chars c) := by
  have up : (d.ports.get p).state ≠ .down := by rw [accepting]; decide
  unfold Device.inFrameOn
  split
  · exact .endFrame accepting _ _
  · exact (Device.Ties.endFrame accepting _ _).trans (.refuseOn (by rw [Device.endFrame_sof]; decide) c)
  · exact (Device.Calm.onPortAt d p fun h => h.receiving up up rfl rfl rfl fun _ at_ => (by cases at_)).ties
  · exact .takeAnswer d p _
  · exact .takeAnswer d p _
  · exact .refl d
  · exact .collect accepting _ _

theorem Device.Ties.receive (d : Device) (p : Port) (c : LineChar) : d.Ties (d.receive p c) := by
  have heard : d.Calm (d.onPort p fun l => { l with silence := some (timeAfter d.tb Config.silenceTime) }) :=
    .onPortSame d p fun _ => rfl
  have state : ((d.onPort p fun l => { l with silence := some (timeAfter d.tb Config.silenceTime) }).ports.get p).state =
      (d.ports.get p).state := (congrArg LinkPort.state (PerPort.get_set_self _ p _)).trans rfl
  unfold Device.receive
  generalize (d.onPort p fun l => { l with silence := some (timeAfter d.tb Config.silenceTime) }) = e at heard state
  refine heard.ties.trans ?_
  dsimp only
  split
  · next down => exact .trainOn (state.trans down) c
  · next refusing => exact .refuseOn (by rw [state, refusing]; decide) c
  · next accepting _ => exact .betweenOn (state.trans accepting) c
  · next accepting _ => exact .inFrameOn (state.trans accepting) _ c

theorem Device.Ties.receiveAll (d : Device) (p : Port) (chars : List LineChar) : d.Ties (d.receiveAll p chars) := by
  unfold Device.receiveAll
  induction chars generalizing d with
  | nil => exact .refl d
  | cons c chars ih => exact (Device.Ties.receive d p c).trans (ih _)

/-! ## The transform unit (R135 to R140) -/

theorem Device.Ties.complete (d : Device) : d.Ties d.complete := by
  unfold Device.complete
  split
  · exact .refl d
  · dsimp only
    split
    · exact ((Device.Calm.onXfu d _).trans (.onXfu _ _)).ties.trans (.routeResult _ _)
    · split
      · exact (((Device.Calm.onXfu d _).trans (.onXfu _ _)).trans (.queryResult _ _ _ _)).ties
      · exact ((Device.Calm.onXfu d _).trans (.onXfu _ _)).ties.trans (.searchResult _ _ _)

theorem Device.Calm.grant (d : Device) : d.Calm d.grant := by
  unfold Device.grant
  split
  · split
    · exact onXfu d _
    · exact refl d
  · split
    · exact onXfu d _
    · exact refl d
  · exact refl d

end Sys2Proof.Machine
end

section
/-! PROOFS. The laws of O5, O6, O9 over every command and every step. -/

namespace Sys2Proof.Machine

/-! ## The commands of the register window -/

theorem LinkPort.hostEntries_eq (l : LinkPort) : l.hostEntries = l.passes := List.countP_eq_length_filter.symm

theorem Device.Ties.setStatus {d e : Device} (h : d.Ties e) (code : Byte) (outcome : CommandOutcome) (reason : RefusalReason) :
    d.Ties (e.setStatus code outcome reason) :=
  h.trans (Device.Calm.ties (.of_same rfl rfl rfl))

theorem Device.Ties.command {d : Device} (code : Byte) {judge : Device → CommandResult}
    (judged : ∀ e, judge d = .taken e ∨ judge d = .held e → d.Ties e) : d.Ties (d.command code judge) :=
  Device.command_of code (.refl d) judged fun _ _ _ h => h.setStatus code _ _

namespace Device.Ties

variable {d e : Device}

theorem judgeLoad (h : d.judgeLoad = .taken e ∨ d.judgeLoad = .held e) : d.Ties e := by
  unfold Device.judgeLoad at h
  repeat' split at h
  · simp at h
  · simp at h
  · obtain rfl : d.loadTransform _ = e := by simpa using h
    exact .loadTransform d _

theorem judgeUnload (h : d.judgeUnload = .taken e ∨ d.judgeUnload = .held e) : d.Ties e := by
  unfold Device.judgeUnload at h
  repeat' split at h
  · simp at h
  · simp at h
  · obtain rfl : d.unloadTransform _ = e := by simpa using h
    exact .unloadTransform d _
  · obtain rfl : d = e := by simpa using h
    exact .refl d

theorem judgeSetQuiet (h : d.judgeSetQuiet = .taken e ∨ d.judgeSetQuiet = .held e) : d.Ties e := by
  unfold Device.judgeSetQuiet at h
  split at h
  · simp at h
  · simp at h
  · obtain rfl : d.requestQuiet _ _ = e := by simpa using h
    exact .requestQuiet d _ _

theorem judgeSetLearning (h : d.judgeSetLearning = .taken e ∨ d.judgeSetLearning = .held e) : d.Ties e := by
  unfold Device.judgeSetLearning at h
  split at h
  · simp at h
  · simp at h
  · obtain rfl : d.onStation _ _ = e := by simpa using h
    exact Device.Calm.ties (.onStation d _ fun _ => rfl)

theorem judgeSetOutstanding (h : d.judgeSetOutstanding = .taken e ∨ d.judgeSetOutstanding = .held e) : d.Ties e := by
  simp only [Device.judgeSetOutstanding] at h
  repeat' split at h
  · simp at h
  · obtain rfl : d.setOutstanding _ _ = e := by simpa using h
    simp only [Device.setOutstanding]
    exact ((Device.Calm.onXfu d _).trans (.onStationCounters _ _ _)).ties
  · simp at h

theorem judgePassSend (h : d.judgePassSend = .taken e ∨ d.judgePassSend = .held e) : d.Ties e := by
  simp only [Device.judgePassSend] at h
  repeat' split at h
  · simp at h
  · simp at h
  · simp at h
  · simp at h
  · next p _ _ up share =>
    obtain rfl : d.onPort p _ = e := by simpa using h
    refine (Device.Calm.onPortAt d p fun linked => linked.placePass up ?_ _).ties
    rw [← LinkPort.hostEntries_eq]
    exact Nat.lt_of_not_le share

/-- A change of the engine, its notices and the interface alone. -/
theorem of_leaves (track : e.track = d.track) (stations : e.stations = d.stations) (ports : e.ports = d.ports) : d.Ties e :=
  (Device.Calm.of_same (by rw [track]) stations ports).ties

theorem judgeStart (h : d.judgeStart = .taken e ∨ d.judgeStart = .held e) : d.Ties e := by
  simp only [Device.judgeStart] at h
  split_ifs at h
  · simp at h
  · simp at h
  · obtain rfl : d.onEngine _ = e := by simpa using h
    exact of_leaves rfl rfl rfl
  · obtain rfl : d.takeStart _ = e := by simpa using h
    exact of_leaves (by simp) (by simp) (by simp)

theorem judgeFlush (h : d.judgeFlush = .taken e ∨ d.judgeFlush = .held e) : d.Ties e := by
  unfold Device.judgeFlush at h
  split at h
  · simp at h
  · obtain rfl : d.flush = e := by simpa using h
    exact of_leaves (by simp) (by simp) (by simp)

theorem judgeResume (h : d.judgeResume = .taken e ∨ d.judgeResume = .held e) : d.Ties e := by
  unfold Device.judgeResume at h
  split_ifs at h
  · simp at h
  · simp at h
  · obtain rfl : d.takeResume = e := by simpa using h
    simp only [Device.takeResume]
    split
    · exact of_leaves rfl rfl rfl
    · exact of_leaves (by simp) (by simp) (by simp)
  · simp at h

theorem mapWork (h : d.MapWork e) : d.Ties e := of_leaves h.track h.stations h.ports

theorem takeLookup (d : Device) (p : Port) : d.Ties (d.takeLookup p) := of_leaves rfl rfl rfl

theorem takeScan (d : Device) : d.Ties d.takeScan := of_leaves rfl rfl rfl

theorem holdOffExpires (d : Device) (p : Port) : d.Ties (d.holdOffExpires p) := by
  unfold Device.holdOffExpires
  split
  · exact Device.Calm.ties (.onStation d p fun _ => rfl)
  · exact .refl d

theorem snapshotTrack (d : Device) : d.Ties d.snapshotTrack :=
  Device.Calm.ties (.of_same rfl rfl rfl)

theorem returnWord (d : Device) (w : Word) : d.Ties (d.returnWord w) := of_leaves rfl rfl rfl

theorem clearPortFlags (d : Device) (p : Port) (w : Word) : d.Ties (d.clearPortFlags p w) :=
  Device.Calm.ties (.onPortSame d p fun _ => rfl)

theorem releaseMailbox (d : Device) (p : Port) : d.Ties (d.releaseMailbox p) := Device.Calm.ties (.onStation d p fun _ => rfl)

/-- One microsecond passes (R3, R145). -/
theorem tick (d : Device) : d.Ties d.tick := by
  refine Device.Calm.ties (.of_places rfl fun p => ?_)
  show (d.stationState p).Eases (d.ports.get p) (d.stationState p) ((d.ports.map LinkPort.sendCharacter).get p)
  rw [PerPort.get_map]
  exact ⟨.inl rfl, fun h => h.sendCharacter⟩

/-- A reset leaves every station ABSENT behind a DOWN port, and the track in IDLE (R1, R105, R147). -/
theorem resetFrom (h : d.ResetFrom e) : d.Ties e := by
  have inv := resetMeetsInvariant
  have track : e.track = State.reset.device.track := h.track
  have stations : e.stations = State.reset.device.stations := h.stations
  have ports : e.ports = State.reset.device.ports := h.ports
  have places : ∀ p, e.stationState p = State.reset.device.stationState p := fun p => by
    rw [Device.stationState, Device.stationState, stations]
  refine ⟨fun _ => ⟨fun p at_ => ?_, ?_, fun p at_ => ?_, fun p at_ => ?_⟩, fun _ _ => track ▸ inv.follows, fun _ _ _ p => ?_⟩
  · rw [track]
    exact inv.roles.owner_named p ((places p).symm.trans at_)
  · rw [track]
    exact inv.roles.owner_present
  · rw [track]
    exact inv.roles.taking_candidate p ((places p).symm.trans at_)
  · rw [track]
    exact inv.roles.searching_state p ((places p).symm.trans at_)
  · rw [places, ports]
    exact (State.reset.device.links_iff p).1 ⟨inv.links p, inv.framing p⟩

/-- Every direct command (R189, and the events of the part). -/
theorem effect (d : Device) {c : Instr} (direct : Instr.direct c = true) : d.Ties (Instr.effect c d) := by
  by_cases work : Instr.mapWork c = true
  · exact mapWork (.effect d work)
  cases c with
  | arm => exact .command 0x01 fun e => judgeArm
  | cancel => exact .command 0x02 fun e => judgeCancel
  | handoffTo => exact .command 0x03 fun e => judgeHandoffTo
  | loadTransform => exact .command 0x10 fun e => judgeLoad
  | unloadTransform => exact .command 0x11 fun e => judgeUnload
  | setQuiet => exact .command 0x12 fun e => judgeSetQuiet
  | setLearning => exact .command 0x13 fun e => judgeSetLearning
  | setOutstanding => exact .command 0x14 fun e => judgeSetOutstanding
  | passSend => exact .command 0x30 fun e => judgePassSend
  | roeStart => exact .command 0x40 fun e => judgeStart
  | roeFlush => exact .command 0x41 fun e => judgeFlush
  | roeResume => exact .command 0x42 fun e => judgeResume
  | enable big flush => exact of_leaves (e := (d.storeSettings big flush).enableAction) (by simp) (by simp) (by simp)
  | disable big flush => exact of_leaves (e := (d.storeSettings big flush).disableAction) (by simp) (by simp) (by simp)
  | engineReset big flush => exact of_leaves (e := (d.storeSettings big flush).engineResetAction) (by simp) (by simp) (by simp)
  | engineControlSettings big flush => exact of_leaves rfl rfl rfl
  | hardwareReset => exact resetFrom d.hardwareReset_resetFrom
  | softReset keep => exact resetFrom (d.softReset_resetFrom keep)
  | mapPeek => exact .returnWord d (d.readWord 0x758)
  | pairModeWrite _ | rollRead | rollWrite _ | noticeFlagClear _ | noticeMaskWrite _ | noticeControlWrite _ | busWidthClear
  | subWordWrite _ _ => exact of_leaves rfl rfl rfl
  | trackSnapshot => exact .snapshotTrack d
  | portFlagClear p w => exact .clearPortFlags d p w
  | mailboxRelease p w => exact .releaseMailbox d p
  | queryDeadlineExpiry => exact .queryExpires d
  | outputDeadlineExpiry => exact .outputExpires d
  | handoffDeadlineExpiry => exact .handoffExpires d
  | coastDeadlineExpiry => exact .coastExpires d
  | searchDeadlineExpiry => exact .searchExpires d
  | holdOffExpiry p => exact .holdOffExpires d p
  | silenceDeadlineExpiry p => exact .silenceTimeout d p
  | answerDeadlineExpiry p => exact .answerTimeout d p
  | idleCharacter p | sof p | brk p | ack p | nak p | eof p | dataCharacter p _ => exact .receive d p _
  | frameCheckFail p _ | formatFail p _ _ _ | obs p _ _ | lock p _ _ | breakFrame p _ _ | failFrame p _ _ _ | bearing p _ _ | ident p _ _
  | pass p _ _ => exact .receiveAll d p _
  | outboundFrameTake p => exact (Device.Calm.onPort d p fun _ _ h => h.takeFrame).ties
  | eofSent p => exact (Device.Calm.onPort d p fun _ _ h => h.eofGone d.tb).ties
  | xfuGrant => exact (Device.Calm.grant d).ties
  | xfuCompletion => exact .complete d
  | pointLookup p => exact takeLookup d p
  | lookupResult p => exact (Device.Calm.storeLookup d p).ties
  | pathScan => exact takeScan d
  | pathScanResult => exact .handBackScan d
  | recordWriteBegin => exact of_leaves (e := d.beginRecordWrite) (by simp) (by simp) (by simp)
  | recordWriteEnd ok => exact of_leaves (e := d.endRecordWrite ok) (by simp) (by simp) (by simp)
  | writebackEnd ok => exact of_leaves (e := d.endWriteback ok) (by simp) (by simp) (by simp)
  | descriptorReadEnd answer => exact of_leaves (e := d.endDescriptorRead answer) (by simp) (by simp) (by simp)
  | rereadEnd answer => exact of_leaves (e := d.endReread answer) (by simp) (by simp) (by simp)
  | registerWrite _ _ | unknownCommandCode _ => simp [Instr.direct] at direct
  | _ => exact absurd rfl work

theorem stored (h : d.Stored e) : d.Ties e := by
  cases h <;> exact of_leaves rfl rfl rfl

end Device.Ties

/-- Every step keeps the three laws. -/
theorem step_ties {s t : State} (h : step s = .next t) : s.device.Ties t.device := by
  refine step_keeps (P := s.device.Ties) h (fun _ => .tick _) (fun c _ => ?_) (.refl _)
  exact Instr.effect_of_direct (.refl _) (fun _ direct => .effect _ direct) (fun _ stored => .stored stored) c

end Sys2Proof.Machine

namespace Sys2Proof

open Machine

/-- Settles O5. -/
theorem rolesKept : Obligations.RolesKept := fun _ _ h => (step_ties h).roles

/-- Settles O6. -/
theorem trackFieldsFollowState : Obligations.TrackFieldsFollowState := fun _ _ h => (step_ties h).follows

/-- Settles O9. -/
theorem linksKept : Obligations.LinksKept := fun s t h roles follows links p =>
  (t.device.links_iff p).2 ((step_ties h).links roles follows (fun q => (s.device.links_iff q).1 (links q)) p)

end Sys2Proof
end

section
/-! PROOFS. Host memory: the bytes of records, completions and descriptors, and the address windows: O56. -/

namespace Sys2Proof.Machine

/-! ## Fields in the engine's byte order (R173, R193) -/

theorem half_of_nat (n : Nat) : (BitVec.ofNat 16 n).extractLsb' 0 8 = BitVec.ofNat 8 n ∧
    (BitVec.ofNat 16 n).extractLsb' 8 8 = BitVec.ofNat 8 (n / 256) := by
  constructor <;> refine BitVec.eq_of_toNat_eq ?_ <;>
    simp only [BitVec.extractLsb'_toNat, BitVec.toNat_ofNat, Nat.shiftRight_eq_div_pow] <;> omega

theorem half_low (h : Half) : h.extractLsb' 0 8 = h.setWidth 8 := by
  refine BitVec.eq_of_toNat_eq ?_
  simp only [BitVec.extractLsb'_toNat, BitVec.toNat_setWidth, Nat.shiftRight_zero]

theorem half_high (h : Half) : h.extractLsb' 8 8 = (h >>> 8).setWidth 8 := by
  refine BitVec.eq_of_toNat_eq ?_
  simp only [BitVec.extractLsb'_toNat, BitVec.toNat_setWidth, BitVec.toNat_ushiftRight]

theorem ordered_false (l : List Byte) : ordered false l = l := rfl

theorem ordered_true (l : List Byte) : ordered true l = l.reverse := rfl

theorem toNat_ofNat_byte {n : Nat} (small : n < 256) : (BitVec.ofNat 8 n).toNat = n := by
  rw [BitVec.toNat_ofNat]
  exact Nat.mod_eq_of_lt small

theorem RecordKind.code_lt (k : RecordKind) : k.code < 256 := by cases k <;> decide

/-- The fields of a record's bytes, read back in either order (R193). -/
theorem recordFields (r : Record) (big : Bool) :
     let l := r.bytes big
     let half : Nat → Half := fun i => if big then l.getD i 0 ++ l.getD (i + 1) 0 else l.getD (i + 1) 0 ++ l.getD i 0
     let word : Nat → Word := fun i =>
       if big then l.getD i 0 ++ l.getD (i + 1) 0 ++ l.getD (i + 2) 0 ++ l.getD (i + 3) 0
       else l.getD (i + 3) 0 ++ l.getD (i + 2) 0 ++ l.getD (i + 1) 0 ++ l.getD i 0
     l.length = 32 ∧ half 0 = r.seq ∧ (l.getD 2 0).toNat = r.kind.code ∧ l.getD 3 0 = r.source ∧ word 4 = r.time ∧
     word 8 = BitVec.ofInt 32 r.position.x ∧ word 12 = BitVec.ofInt 32 r.position.y ∧ word 16 = BitVec.ofInt 32 r.position.z ∧
     half 20 = BitVec.ofInt 16 r.velocity.x ∧ half 22 = BitVec.ofInt 16 r.velocity.y ∧ half 24 = BitVec.ofInt 16 r.velocity.z ∧
     half 26 = BitVec.ofNat 16 r.residual ∧ half 28 = BitVec.ofNat 16 r.flags.bits ∧
     (l.getD 30 0).toNat = r.state.code ∧ l.getD 31 0 = r.last := by
  have kind : (BitVec.ofNat 8 r.kind.code).toNat = r.kind.code := toNat_ofNat_byte r.kind.code_lt
  have state : (BitVec.ofNat 8 r.state.code).toNat = r.state.code := toNat_ofNat_byte (Nat.lt_trans r.state.code_lt (by decide))
  have seq : BitVec.ofNat 16 r.seq.toNat = r.seq := by simp
  cases big <;>
  · simp only [Record.bytes, halfField, intHalfField, wordField, ordered_false, ordered_true, halfBytes, wordBytes, seq, List.reverse_cons, List.reverse_nil,
      List.nil_append, List.cons_append, List.getD_cons_zero, List.getD_cons_succ, List.length_cons, List.length_nil,
      half_eq_bytes, word_eq_bytes, if_true, Bool.false_eq_true, if_false, kind, state, intWord, and_self]

/-- The bytes of a completion, least significant first or reversed by field (R177, R193). -/
theorem completionBytes_eq (written : Nat) (status : CompletionStatus) (error : Option EngineError) (seq : Half) :
    completionBytes false written status error seq =
       [BitVec.ofNat 8 written, BitVec.ofNat 8 (written / 256), BitVec.ofNat 8 status.code, BitVec.ofNat 8 (engineErrorCode error),
        seq.setWidth 8, (seq >>> 8).setWidth 8, 0, 0] ∧
     completionBytes true written status error seq =
       [BitVec.ofNat 8 (written / 256), BitVec.ofNat 8 written, BitVec.ofNat 8 status.code, BitVec.ofNat 8 (engineErrorCode error),
        (seq >>> 8).setWidth 8, seq.setWidth 8, 0, 0] := by
  have whole : BitVec.ofNat 16 seq.toNat = seq := by simp
  have zeros : (0#16).extractLsb' 0 8 = 0 ∧ (0#16).extractLsb' 8 8 = 0 := by decide
  constructor <;>
    simp only [completionBytes, halfField, ordered_false, ordered_true, halfBytes, whole, List.reverse_cons, List.reverse_nil, List.nil_append,
      List.cons_append, half_of_nat written, half_low seq, half_high seq, zeros]

/-! ## Descriptors (R193) -/

/-- The upper and the lower half of two values side by side. -/
theorem extract_low {m n start len : Nat} (x : BitVec m) (y : BitVec n) (inside : start + len ≤ n) :
    (x ++ y).extractLsb' start len = y.extractLsb' start len := BitVec.extractLsb'_append_eq_of_add_le inside

theorem extract_high {m n start len : Nat} (x : BitVec m) (y : BitVec n) (above : n ≤ start) :
    (x ++ y).extractLsb' start len = x.extractLsb' (start - n) len := BitVec.extractLsb'_append_eq_of_le above

/-- A word's bytes in the other order. -/
def swapWord (big : Bool) (w : Word) : Word :=
  if big then (w.extractLsb' 0 8 ++ w.extractLsb' 8 8 ++ w.extractLsb' 16 8 ++ w.extractLsb' 24 8) else w

/-- A half's bytes in the other order. -/
def swapHalf (big : Bool) (h : Half) : Half := if big then (h.extractLsb' 0 8 ++ h.extractLsb' 8 8) else h

/-- The bytes of a word put together from four, and of a half from two. -/
theorem wordBytes_append (a b c d : Byte) : wordBytes (a ++ b ++ c ++ d) = [d, c, b, a] := by
  have first : (a ++ b ++ c ++ d).extractLsb' 0 8 = d := (extract_low (start := 0) (len := 8) _ d (by decide)).trans (by simp)
  have above : ∀ s, (a ++ b ++ c ++ d).extractLsb' (8 + s) 8 = (a ++ b ++ c).extractLsb' s 8 := fun s =>
    (extract_high _ d (by omega)).trans (by rw [Nat.add_sub_cancel_left])
  have second : (a ++ b ++ c).extractLsb' 0 8 = c := (extract_low (start := 0) (len := 8) _ c (by decide)).trans (by simp)
  have higher : ∀ s, (a ++ b ++ c).extractLsb' (8 + s) 8 = (a ++ b).extractLsb' s 8 := fun s =>
    (extract_high _ c (by omega)).trans (by rw [Nat.add_sub_cancel_left])
  have third : (a ++ b).extractLsb' 0 8 = b := (extract_low (start := 0) (len := 8) _ b (by decide)).trans (by simp)
  have last : (a ++ b).extractLsb' 8 8 = a := (extract_high (start := 8) (len := 8) _ b (by decide)).trans (by simp)
  show [(a ++ b ++ c ++ d).extractLsb' 0 8, (a ++ b ++ c ++ d).extractLsb' (8 + 0) 8, (a ++ b ++ c ++ d).extractLsb' (8 + (8 + 0)) 8,
    (a ++ b ++ c ++ d).extractLsb' (8 + (8 + 8)) 8] = _
  rw [first, above, above, above, second, higher, higher, third, last]

theorem halfBytes_append (a b : Byte) : halfBytes (a ++ b) = [b, a] := by
  have first : (a ++ b).extractLsb' 0 8 = b := (extract_low (start := 0) (len := 8) _ b (by decide)).trans (by simp)
  have last : (a ++ b).extractLsb' 8 8 = a := (extract_high (start := 8) (len := 8) _ b (by decide)).trans (by simp)
  rw [halfBytes, first, last]

theorem wordAt_swapWord (big : Bool) (w : Word) : wordAt (ordered big (wordBytes (swapWord big w))) 0 = w := by
  cases big with
  | false => exact word_eq_bytes w
  | true =>
    have bytes : wordBytes (swapWord true w) = [w.extractLsb' 24 8, w.extractLsb' 16 8, w.extractLsb' 8 8, w.extractLsb' 0 8] :=
      wordBytes_append ..
    rw [bytes]
    exact word_eq_bytes w

theorem halfAt_swapHalf (big : Bool) (h : Half) : halfAt (ordered big (halfBytes (swapHalf big h))) 0 = h := by
  cases big with
  | false => exact half_eq_bytes h
  | true =>
    have bytes : halfBytes (swapHalf true h) = [h.extractLsb' 8 8, h.extractLsb' 0 8] := halfBytes_append ..
    rw [bytes]
    exact half_eq_bytes h

/-- The sixteen bytes of a descriptor read, field by field. -/
theorem descriptorBytes_eq {answer : BitVec 128} {w n b : Word} {u c : Half} (parts : answer = w ++ n ++ (u ++ c) ++ b) :
    descriptorBytes answer = wordBytes b ++ halfBytes c ++ halfBytes u ++ wordBytes n ++ wordBytes w := by
  have buffer : ∀ s, s + 8 ≤ 32 → answer.extractLsb' s 8 = b.extractLsb' s 8 := fun s inside => by
    rw [parts]
    exact extract_low _ b inside
  have above : ∀ s, answer.extractLsb' (32 + s) 8 = (w ++ n ++ (u ++ c)).extractLsb' s 8 := fun s => by
    rw [parts]
    exact (extract_high (w ++ n ++ (u ++ c)) b (by omega)).trans (by rw [Nat.add_sub_cancel_left])
  have halves : ∀ s, s + 8 ≤ 32 → answer.extractLsb' (32 + s) 8 = (u ++ c).extractLsb' s 8 := fun s inside =>
    (above s).trans (extract_low (w ++ n) (u ++ c) inside)
  have words : ∀ s, answer.extractLsb' (64 + s) 8 = (w ++ n).extractLsb' s 8 := fun s => by
    have at_ := above (32 + s)
    rw [← Nat.add_assoc] at at_
    exact at_.trans ((extract_high (w ++ n) (u ++ c) (by omega)).trans (by rw [Nat.add_sub_cancel_left]))
  have capacity : ∀ s, s + 8 ≤ 16 → answer.extractLsb' (32 + s) 8 = c.extractLsb' s 8 := fun s inside =>
    (halves s (by omega)).trans (extract_low u c inside)
  have reserved : ∀ s, s + 8 ≤ 16 → answer.extractLsb' (48 + s) 8 = u.extractLsb' s 8 := fun s inside => by
    have at_ := halves (16 + s) (by omega)
    rw [← Nat.add_assoc] at at_
    exact at_.trans ((extract_high u c (by omega)).trans (by rw [Nat.add_sub_cancel_left]))
  have next : ∀ s, s + 8 ≤ 32 → answer.extractLsb' (64 + s) 8 = n.extractLsb' s 8 := fun s inside =>
    (words s).trans (extract_low w n inside)
  have writeback : ∀ s, answer.extractLsb' (96 + s) 8 = w.extractLsb' s 8 := fun s => by
    have at_ := words (32 + s)
    rw [← Nat.add_assoc] at at_
    exact at_.trans ((extract_high w n (by omega)).trans (by rw [Nat.add_sub_cancel_left]))
  have listed : descriptorBytes answer =
      [answer.extractLsb' 0 8, answer.extractLsb' 8 8, answer.extractLsb' 16 8, answer.extractLsb' 24 8,
       answer.extractLsb' (32 + 0) 8, answer.extractLsb' (32 + 8) 8, answer.extractLsb' (48 + 0) 8, answer.extractLsb' (48 + 8) 8,
       answer.extractLsb' (64 + 0) 8, answer.extractLsb' (64 + 8) 8, answer.extractLsb' (64 + 16) 8, answer.extractLsb' (64 + 24) 8,
       answer.extractLsb' (96 + 0) 8, answer.extractLsb' (96 + 8) 8, answer.extractLsb' (96 + 16) 8,
       answer.extractLsb' (96 + 24) 8] := rfl
  rw [listed, buffer 0 (by decide), buffer 8 (by decide), buffer 16 (by decide), buffer 24 (by decide), capacity 0 (by decide),
    capacity 8 (by decide), reserved 0 (by decide), reserved 8 (by decide), next 0 (by decide), next 8 (by decide), next 16 (by decide),
    next 24 (by decide), writeback 0, writeback 8, writeback 16, writeback 24]
  rfl

theorem readDescriptor_swapped (address buffer next writeback : Word) (capacity unused : Half) (big : Bool) :
    readDescriptor address big
      (swapWord big writeback ++ swapWord big next ++ (swapHalf big unused ++ swapHalf big capacity) ++ swapWord big buffer) =
      ⟨address, buffer, capacity, next, writeback, 0, 0⟩ := by
  have fields := descriptorBytes_eq (rfl : (swapWord big writeback ++ swapWord big next ++ (swapHalf big unused ++ swapHalf big capacity) ++
    swapWord big buffer : BitVec 128) = _)
  simp only [readDescriptor]
  rw [fields]
  show (⟨address, wordAt (ordered big (wordBytes (swapWord big buffer))) 0, halfAt (ordered big (halfBytes (swapHalf big capacity))) 0,
    wordAt (ordered big (wordBytes (swapWord big next))) 0, wordAt (ordered big (wordBytes (swapWord big writeback))) 0, 0, 0⟩ :
      Descriptor) = _
  rw [wordAt_swapWord, wordAt_swapWord, wordAt_swapWord, halfAt_swapHalf]

/-! ## Address windows (R172) -/

theorem Window.translate_eq (w : Window) (a : Word) (small : w.exponent ≤ 31) :
    w.translate a =
      if w.enabled = true ∧ a.toNat / 2 ^ w.exponent = w.base.toNat / 2 ^ w.exponent then
        some (BitVec.ofNat 32 (w.target.toNat / 2 ^ w.exponent * 2 ^ w.exponent + a.toNat % 2 ^ w.exponent))
      else none := by
  have agrees : a >>> w.exponent = w.base >>> w.exponent ↔ a.toNat / 2 ^ w.exponent = w.base.toNat / 2 ^ w.exponent := by
    rw [BitVec.toNat_eq, BitVec.toNat_ushiftRight, BitVec.toNat_ushiftRight, Nat.shiftRight_eq_div_pow, Nat.shiftRight_eq_div_pow]
  have below : 2 ^ w.exponent < 2 ^ 32 := Nat.pow_lt_pow_right (by decide) (by omega)
  have mask : (1#32 <<< w.exponent - 1#32).toNat = 2 ^ w.exponent - 1 := by
    have one : (1#32 <<< w.exponent).toNat = 2 ^ w.exponent := by
      rw [BitVec.toNat_shiftLeft, Nat.shiftLeft_eq]
      simp only [BitVec.toNat_ofNat]
      rw [Nat.mod_eq_of_lt (show 1 < 2 ^ 32 by decide), Nat.one_mul, Nat.mod_eq_of_lt below]
    have positive : 0 < 2 ^ w.exponent := Nat.two_pow_pos _
    have unit : (1#32).toNat = 1 := rfl
    rw [BitVec.toNat_sub_of_le (by rw [BitVec.le_def, one, unit]; omega), one, unit]
  have target : (w.target >>> w.exponent <<< w.exponent).toNat = 2 ^ w.exponent * (w.target.toNat / 2 ^ w.exponent) := by
    rw [BitVec.toNat_shiftLeft, Nat.shiftLeft_eq, BitVec.toNat_ushiftRight, Nat.shiftRight_eq_div_pow, Nat.mul_comm]
    exact Nat.mod_eq_of_lt (Nat.lt_of_le_of_lt (Nat.mul_div_le _ _) w.target.isLt)
  have bus : (w.target >>> w.exponent <<< w.exponent) ||| w.lowBits a =
      BitVec.ofNat 32 (w.target.toNat / 2 ^ w.exponent * 2 ^ w.exponent + a.toNat % 2 ^ w.exponent) := by
    refine BitVec.eq_of_toNat_eq ?_
    have fits := ((w.target >>> w.exponent <<< w.exponent) ||| w.lowBits a).isLt
    have joined : ((w.target >>> w.exponent <<< w.exponent) ||| w.lowBits a).toNat =
        2 ^ w.exponent * (w.target.toNat / 2 ^ w.exponent) + a.toNat % 2 ^ w.exponent := by
      rw [BitVec.toNat_or, Window.lowBits, BitVec.toNat_and, target, mask, Nat.and_two_pow_sub_one_eq_mod,
        Nat.two_pow_add_eq_or_of_lt (Nat.mod_lt _ (Nat.two_pow_pos _))]
    rw [BitVec.toNat_ofNat, Nat.mul_comm (w.target.toNat / 2 ^ w.exponent), ← joined, Nat.mod_eq_of_lt fits]
  unfold Window.translate
  rw [bus]
  simp only [Bool.and_eq_true, decide_eq_true_eq, agrees]

end Sys2Proof.Machine

namespace Sys2Proof

open Machine

/-- Settles O56. -/
theorem hostLayoutsAndAddresses : Obligations.HostLayoutsAndAddresses := by
  refine ⟨⟨recordFields, completionBytes_eq, readDescriptor_swapped⟩, ?_⟩
  intro e a small0 small1 covers bus
  have translated : e.translate a = (if covers e.window0 then some (bus e.window0) else none).or
      (if covers e.window1 then some (bus e.window1) else none) := by
    rw [Engine.translate, Window.translate_eq _ a small0, Window.translate_eq _ a small1]
  rw [translated]
  refine ⟨fun first => ?_, fun not_ second => ?_, fun not_ none_ => ?_⟩
  · rw [if_pos first]
    rfl
  · rw [if_neg not_, if_pos second]
    rfl
  · rw [if_neg not_, if_neg none_]
    rfl

end Sys2Proof
end

section
/-! PROOFS. The registers that keep what is written to them: O35. -/

namespace Sys2Proof.Machine

/-! ## Groups of words -/

theorem groupWord_append_left {a b : List Word} {k : Nat} (inside : k < a.length) : groupWord (a ++ b) k = groupWord a k :=
  List.getD_append a b 0 k inside

theorem groupWord_append_right {a b : List Word} {k : Nat} (beyond : a.length ≤ k) : groupWord (a ++ b) k = groupWord b (k - a.length) :=
  List.getD_append_right a b 0 k beyond

theorem groupWord_set_self {l : List Word} {i : Nat} (inside : i < l.length) (w : Word) : groupWord (l.set i w) i = w := by
  rw [groupWord, List.getD_eq_getElem?_getD, List.getElem?_set_self inside]
  rfl

theorem groupWord_set_other {l : List Word} {i k : Nat} (other : k ≠ i) (w : Word) : groupWord (l.set i w) k = groupWord l k := by
  rw [groupWord, groupWord, List.getD_eq_getElem?_getD, List.getD_eq_getElem?_getD, List.getElem?_set_ne (Ne.symm other)]

/-- The words 0x000 to 0x024. -/
def Device.systemHead (d : Device) : List Word :=
  [packed [bitAt 0 d.sbi.busWidth, bitAt 1 d.engine.startHeld, fieldAt 8 2 d.sbi.lastReset.code],
   0,
   packed [fieldAt 0 8 d.sbi.status.code.toNat, fieldAt 8 4 d.sbi.status.outcome.code, fieldAt 12 4 d.sbi.status.reason.code],
   0,
   fieldAt 0 14 d.notices.flags.toNat, fieldAt 0 14 d.notices.mask.toNat, bitAt 0 d.notices.enabled,
   fieldAt 0 4 d.notices.sourceWord,
   d.tb,
   d.roll.word]

theorem Device.systemWords_eq (d : Device) :
    d.systemWords = d.systemHead ++ (d.roll.dataWords ++ [0, 0, 0]) ++ d.sbi.parameters.words ++ d.sbi.staging.words := by
  rw [← List.append_assoc]
  rfl

theorem RollCall.dataWords_length (r : RollCall) : (r.dataWords ++ [0, 0, 0]).length = 6 := by
  unfold RollCall.dataWords
  split <;> rfl

/-- Each word of the system group stands in its part of it. -/
theorem Device.systemWord_eq (d : Device) (k : Nat) :
    groupWord d.systemWords k =
      if k < 10 then groupWord d.systemHead k
      else if k < 16 then groupWord (d.roll.dataWords ++ [0, 0, 0]) (k - 10)
      else if k < 24 then groupWord d.sbi.parameters.words (k - 16)
      else groupWord d.sbi.staging.words (k - 24) := by
  have head : d.systemHead.length = 10 := rfl
  have rolled : (d.systemHead ++ (d.roll.dataWords ++ [0, 0, 0])).length = 16 := by
    rw [List.length_append, d.roll.dataWords_length, head]
  have given : (d.systemHead ++ (d.roll.dataWords ++ [0, 0, 0]) ++ d.sbi.parameters.words).length = 24 := by
    rw [List.length_append, rolled]
    rfl
  rw [d.systemWords_eq]
  split
  · next inside =>
    rw [groupWord_append_left (by omega), groupWord_append_left (by omega), groupWord_append_left (by omega)]
  split
  · next inside =>
    rw [groupWord_append_left (by omega), groupWord_append_left (by omega), groupWord_append_right (by omega), head]
  split
  · next inside => rw [groupWord_append_left (by omega), groupWord_append_right (by omega), rolled]
  · next beyond => rw [groupWord_append_right (by omega), given]

/-! ## What a read depends on -/

/-- Two parts whose four changing groups agree at an offset, and whose other blocks are the same, read alike there. -/
theorem Device.readWord_congr {d e : Device} {o : BitVec 12} (track : e.track = d.track) (stations : e.stations = d.stations)
    (ports : e.ports = d.ports) (xfu : e.xfu = d.xfu)
    (system : o.toNat < 0x100 → groupWord e.systemWords (o.toNat / 4) = groupWord d.systemWords (o.toNat / 4))
    (parameters : 0x200 ≤ o.toNat → o.toNat < 0x300 →
      groupWord e.parameterWords ((o.toNat - 0x200) / 4) = groupWord d.parameterWords ((o.toNat - 0x200) / 4))
    (maps : 0x740 ≤ o.toNat → o.toNat < 0x780 →
      groupWord e.smu.words ((o.toNat - 0x740) / 4) = groupWord d.smu.words ((o.toNat - 0x740) / 4))
    (engine : 0x780 ≤ o.toNat → groupWord e.engine.words ((o.toNat - 0x780) / 4) = groupWord d.engine.words ((o.toNat - 0x780) / 4)) :
    e.readWord o = d.readWord o := by
  have stationWords : e.stationWords = d.stationWords := funext fun p => by
    simp only [Device.stationWords, Device.hasTransform, stations, xfu]
  simp only [Device.readWord]
  rw [track, stations, ports, xfu, stationWords]
  refine ite_congr rfl system fun _ => ite_congr rfl (fun _ => rfl) fun low => ite_congr rfl (fun high => parameters (by omega) high)
    fun _ => ite_congr rfl (fun _ => rfl) fun _ => ite_congr rfl (fun _ => rfl) fun _ => ite_congr rfl (fun _ => rfl)
    fun _ => ite_congr rfl (fun _ => rfl) fun _ => ite_congr rfl (fun _ => rfl) fun _ => ite_congr rfl (fun _ => rfl)
    fun _ => ite_congr rfl (fun _ => rfl) fun _ => ite_congr rfl (fun _ => rfl) fun _ => ite_congr rfl (fun _ => rfl)
    fun below => ite_congr rfl (fun high => maps (by omega) high) fun under => ite_congr rfl (fun _ => engine (by omega)) fun _ => rfl

/-- What O35 asks of one write of a register: the value read back, every other word as it was, and the blocks that it may change. -/
structure Device.StoresAt (d e : Device) (o : BitVec 12) (v : Word) : Prop where
  read : e.readWord o = v
  others : ∀ o' : BitVec 12, o'.toNat / 4 ≠ o.toNat / 4 → ¬ (o = 0x014 ∧ o'.toNat / 4 = 7) → ¬ (o = 0x754 ∧ o'.toNat / 4 = 0x1D6) →
    e.readWord o' = d.readWord o'
  blocks : e = { d with
    params := e.params
    sbi := { d.sbi with parameters := e.sbi.parameters, staging := e.sbi.staging }
    notices := { d.notices with mask := e.notices.mask, enabled := e.notices.enabled }
    smu := { d.smu with peek := e.smu.peek }
    engine := { d.engine with window0 := e.engine.window0, window1 := e.engine.window1 } }

/-! ## Parameter words and staging words (R194) -/

theorem ParameterWords.write_words (q : ParameterWords) {i : Nat} (small : i < 8) (w : Word) : (q.write i w).words = q.words.set i w := by
  interval_cases i <;> rfl

theorem TransformValues.write_words (v : TransformValues) {i : Nat} (small : i < 12) (w : Word) : (v.write i w).words = v.words.set i w := by
  interval_cases i <;> rfl

theorem Device.writeWord_parameterWord (d : Device) {i : Nat} (small : i < 8) (w : Word) :
    d.writeWord (BitVec.ofNat 12 (0x040 + 4 * i)) w = d.onSbi fun b => { b with parameters := b.parameters.write i w } := by
  interval_cases i <;> rfl

theorem Device.writeWord_staging (d : Device) {i : Nat} (small : i < 12) (w : Word) :
    d.writeWord (BitVec.ofNat 12 (0x060 + 4 * i)) w = d.onSbi fun b => { b with staging := b.staging.write i w } := by
  interval_cases i <;> rfl

/-- The number of an offset given as a word of a group. -/
theorem toNat_offset {base i : Nat} (fits : base + 4 * i < 4096) : (BitVec.ofNat 12 (base + 4 * i)).toNat = base + 4 * i := by
  rw [BitVec.toNat_ofNat]
  exact Nat.mod_eq_of_lt fits

theorem Device.readWord_system (d : Device) {o : BitVec 12} (low : o.toNat < 0x100) :
    d.readWord o = groupWord d.systemWords (o.toNat / 4) := if_pos low

theorem Device.storesAt_parameterWord (d : Device) {i : Nat} (small : i < 8) (w : Word) :
    d.StoresAt (d.onSbi fun b => { b with parameters := b.parameters.write i w }) (BitVec.ofNat 12 (0x040 + 4 * i)) w := by
  have offset := toNat_offset (base := 0x040) (i := i) (by omega)
  refine ⟨?_, fun o' other _ _ => ?_, rfl⟩
  · rw [Device.readWord_system _ (by omega), Device.systemWord_eq, if_neg (by omega), if_neg (by omega), if_pos (by omega), offset]
    show groupWord (d.sbi.parameters.write i w).words _ = w
    rw [d.sbi.parameters.write_words small, show (0x040 + 4 * i) / 4 - 16 = i by omega]
    exact groupWord_set_self small w
  · refine Device.readWord_congr rfl rfl rfl rfl (fun _ => ?_) (fun _ _ => rfl) (fun _ _ => rfl) fun _ => rfl
    rw [Device.systemWord_eq, Device.systemWord_eq]
    refine ite_congr rfl (fun _ => rfl) fun _ => ite_congr rfl (fun _ => rfl) fun low => ite_congr rfl (fun _ => ?_) fun _ => rfl
    show groupWord (d.sbi.parameters.write i w).words _ = _
    rw [d.sbi.parameters.write_words small, groupWord_set_other (by omega)]

theorem Device.storesAt_staging (d : Device) {i : Nat} (small : i < 12) (w : Word) :
    d.StoresAt (d.onSbi fun b => { b with staging := b.staging.write i w }) (BitVec.ofNat 12 (0x060 + 4 * i)) w := by
  have offset := toNat_offset (base := 0x060) (i := i) (by omega)
  refine ⟨?_, fun o' other _ _ => ?_, rfl⟩
  · rw [Device.readWord_system _ (by omega), Device.systemWord_eq, if_neg (by omega), if_neg (by omega), if_neg (by omega), offset]
    show groupWord (d.sbi.staging.write i w).words _ = w
    rw [d.sbi.staging.write_words small, show (0x060 + 4 * i) / 4 - 24 = i by omega]
    exact groupWord_set_self small w
  · refine Device.readWord_congr rfl rfl rfl rfl (fun _ => ?_) (fun _ _ => rfl) (fun _ _ => rfl) fun _ => rfl
    rw [Device.systemWord_eq, Device.systemWord_eq]
    refine ite_congr rfl (fun _ => rfl) fun _ => ite_congr rfl (fun _ => rfl) fun _ => ite_congr rfl (fun _ => rfl) fun high => ?_
    show groupWord (d.sbi.staging.write i w).words _ = _
    rw [d.sbi.staging.write_words small, groupWord_set_other (by omega)]

/-! ## The notice mask and control (R184) -/

/-- A field of a word, kept where it stands. -/
theorem fieldAt_extract (w : Word) {low width : Nat} (fits : low + width ≤ 32) :
    fieldAt low width (w.extractLsb' low width).toNat = w &&& fieldAt low width (2 ^ width - 1) := by
  refine BitVec.eq_of_getLsbD_eq fun i _ => ?_
  rw [BitVec.getLsbD_and, fieldAt_getLsbD fits, fieldAt_getLsbD fits, Nat.testBit_two_pow_sub_one]
  by_cases from_ : low ≤ i
  · by_cases to_ : i < low + width
    · have inside : i - low < width := by omega
      rw [← BitVec.getLsbD, BitVec.getLsbD_extractLsb', decide_eq_true inside, decide_eq_true from_, decide_eq_true to_,
        Nat.add_sub_cancel' from_]
      simp
    · simp [to_]
  · simp [from_]

theorem bitAt_zero (w : Word) : bitAt 0 (w.getLsbD 0) = w &&& 1 := by
  have bit : (w.getLsbD 0).toNat = (w.extractLsb' 0 1).toNat := by
    rw [BitVec.extractLsb'_toNat, Nat.shiftRight_zero, BitVec.getLsbD, Nat.testBit_zero]
    rcases Nat.mod_two_eq_zero_or_one w.toNat with at_ | at_ <;> simp [at_]
  rw [bitAt, bit, fieldAt_extract w (by decide)]
  rfl

theorem Device.storesAt_mask (d : Device) (w : Word) : d.StoresAt (d.writeMask w) 0x014 (w &&& 0x3FFF) := by
  refine ⟨?_, fun o' other source _ => ?_, rfl⟩
  · exact fieldAt_extract w (low := 0) (width := 14) (by decide)
  · have notFive : o'.toNat / 4 ≠ 5 := other
    have notSeven : o'.toNat / 4 ≠ 7 := fun at_ => source ⟨rfl, at_⟩
    refine Device.readWord_congr rfl rfl rfl rfl (fun _ => ?_) (fun _ _ => rfl) (fun _ _ => rfl) fun _ => rfl
    rw [Device.systemWord_eq, Device.systemWord_eq]
    refine ite_congr rfl (fun _ => ?_) fun _ => ite_congr rfl (fun _ => rfl) fun _ => ite_congr rfl (fun _ => rfl) fun _ => rfl
    have head : (d.writeMask w).systemHead = (d.systemHead.set 5 (fieldAt 0 14 (w.extractLsb' 0 14).toNat)).set 7
      (fieldAt 0 4 (d.writeMask w).notices.sourceWord) := rfl
    rw [head, groupWord_set_other notSeven, groupWord_set_other notFive]

theorem Device.storesAt_noticeControl (d : Device) (w : Word) : d.StoresAt (d.writeNoticeControl w) 0x018 (w &&& 1) := by
  refine ⟨bitAt_zero w, fun o' other _ _ => ?_, rfl⟩
  have notSix : o'.toNat / 4 ≠ 6 := other
  refine Device.readWord_congr rfl rfl rfl rfl (fun _ => ?_) (fun _ _ => rfl) (fun _ _ => rfl) fun _ => rfl
  rw [Device.systemWord_eq, Device.systemWord_eq]
  refine ite_congr rfl (fun _ => ?_) fun _ => ite_congr rfl (fun _ => rfl) fun _ => ite_congr rfl (fun _ => rfl) fun _ => rfl
  have head : (d.writeNoticeControl w).systemHead = d.systemHead.set 6 (bitAt 0 (w.getLsbD 0)) := rfl
  rw [head, groupWord_set_other notSix]

/-! ## The parameters (R187) -/

/-- The parameters that a write stores: the index of each with its range. -/
def parameterRanges : List (Nat × Nat × Nat) :=
  [(0, 1, 65535), (1, 0, 65535), (2, 100, 1000000), (3, 1, 15), (4, 1000, 1000000), (6, 0, 200000), (7, 1, 15), (8, 1000, 1000000),
   (9, 5000, 500000), (10, 5000, 1000000), (11, 10000, 1000000), (12, 100, 1000000), (13, 0, 5000000), (14, 0, 1), (15, 0, 2000000),
   (16, 100000, 30000000), (17, 1000, 5000000)]

theorem Device.writeWord_params (d : Device) {i : Nat} (small : i < 18) (w : Word) :
    d.writeWord (BitVec.ofNat 12 (0x200 + 4 * i)) w = { d with params := d.params.write i w } := by
  interval_cases i <;> rfl

theorem tieMode_code (w : Word) : (if w = 0 then TieMode.fixed else TieMode.rotating).code = clampWord 0 1 w := by
  by_cases zero : w = 0
  · rw [if_pos zero, zero]
    rfl
  · have positive : w.toNat ≠ 0 := fun at_ => zero (BitVec.eq_of_toNat_eq at_)
    rw [if_neg zero]
    show 1 = max 0 (min w.toNat 1)
    omega

theorem Device.write_parameterWords (d : Device) {i lo hi : Nat} (mem : (i, lo, hi) ∈ parameterRanges) (w : Word) :
    ({ d with params := d.params.write i w } : Device).parameterWords =
      d.parameterWords.set i (BitVec.ofNat 32 (max lo (min w.toNat hi))) := by
  simp only [parameterRanges, List.mem_cons, List.not_mem_nil, or_false, Prod.mk.injEq] at mem
  rcases mem with ⟨rfl, rfl, rfl⟩ | ⟨rfl, rfl, rfl⟩ | ⟨rfl, rfl, rfl⟩ | ⟨rfl, rfl, rfl⟩ | ⟨rfl, rfl, rfl⟩ | ⟨rfl, rfl, rfl⟩ |
    ⟨rfl, rfl, rfl⟩ | ⟨rfl, rfl, rfl⟩ | ⟨rfl, rfl, rfl⟩ | ⟨rfl, rfl, rfl⟩ | ⟨rfl, rfl, rfl⟩ | ⟨rfl, rfl, rfl⟩ | ⟨rfl, rfl, rfl⟩ |
    ⟨rfl, rfl, rfl⟩ | ⟨rfl, rfl, rfl⟩ | ⟨rfl, rfl, rfl⟩ | ⟨rfl, rfl, rfl⟩
  case inr.inr.inr.inr.inr.inr.inr.inr.inr.inr.inr.inr.inr.inl =>
    exact congrArg (fun n => d.parameterWords.set 14 (BitVec.ofNat 32 n)) (tieMode_code w)
  all_goals rfl

theorem lt_of_mem_parameterRanges : ∀ r ∈ parameterRanges, r.1 < 18 := by decide

theorem Device.storesAt_params (d : Device) {i lo hi : Nat} (mem : (i, lo, hi) ∈ parameterRanges) (w : Word) :
    d.StoresAt { d with params := d.params.write i w } (BitVec.ofNat 12 (0x200 + 4 * i)) (BitVec.ofNat 32 (max lo (min w.toNat hi))) := by
  have small : i < 18 := lt_of_mem_parameterRanges _ mem
  have offset := toNat_offset (base := 0x200) (i := i) (by omega)
  have length : d.parameterWords.length = 19 := rfl
  refine ⟨?_, fun o' other _ _ => ?_, rfl⟩
  · rw [Device.readWord, if_neg (by omega), if_neg (by omega), if_pos (by omega), offset, Device.write_parameterWords d mem,
      show (0x200 + 4 * i - 0x200) / 4 = i by omega, groupWord_set_self (by omega)]
  · refine Device.readWord_congr rfl rfl rfl rfl (fun _ => rfl) (fun _ _ => ?_) (fun _ _ => rfl) fun _ => rfl
    rw [Device.write_parameterWords d mem, groupWord_set_other (by omega)]

/-! ## The peek selector (R103) -/

theorem peekOfWord_word (w : Word) :
    packed [fieldAt 0 9 (peekOfWord w).column.toNat, fieldAt 16 7 (peekOfWord w).row.toNat, fieldAt 24 2 (peekOfWord w).station.val] =
      w &&& 0x037F01FF := by
  have station : (peekOfWord w).station.val = (w.extractLsb' 24 2).toNat := by
    rw [BitVec.extractLsb'_toNat, Nat.shiftRight_eq_div_pow]
    rfl
  have column : (peekOfWord w).column.toNat = (w.extractLsb' 0 9).toNat := rfl
  have row : (peekOfWord w).row.toNat = (w.extractLsb' 16 7).toNat := rfl
  rw [station, column, row, fieldAt_extract w (by decide), fieldAt_extract w (by decide), fieldAt_extract w (by decide)]
  show ((0#32 ||| w &&& fieldAt 0 9 (2 ^ 9 - 1)) ||| w &&& fieldAt 16 7 (2 ^ 7 - 1)) ||| w &&& fieldAt 24 2 (2 ^ 2 - 1) = _
  rw [BitVec.zero_or, ← BitVec.and_or_distrib_left, ← BitVec.and_or_distrib_left]
  rfl

theorem Device.readWord_maps (d : Device) {o : BitVec 12} (low : 0x740 ≤ o.toNat) (high : o.toNat < 0x780) :
    d.readWord o = groupWord d.smu.words ((o.toNat - 0x740) / 4) := by
  rw [Device.readWord, if_neg (by omega), if_neg (by omega), if_neg (by omega), if_neg (by omega), if_neg (by omega), if_neg (by omega),
    if_neg (by omega), if_neg (by omega), if_neg (by omega), if_neg (by omega), if_neg (by omega), if_neg (by omega), if_pos high]

theorem Device.storesAt_peek (d : Device) (w : Word) :
    d.StoresAt (d.onSmu fun m => { m with peek := peekOfWord w }) 0x754 (w &&& 0x037F01FF) := by
  refine ⟨?_, fun o' other _ selected => ?_, rfl⟩
  · have position : ((0x754 : BitVec 12).toNat - 0x740) / 4 = 5 := by decide
    rw [Device.readWord_maps _ (by decide) (by decide), position, ← peekOfWord_word w]
    generalize peekOfWord w = k
    rfl
  have notSelector : o'.toNat / 4 ≠ 0x1D5 := other
  have notData : o'.toNat / 4 ≠ 0x1D6 := fun at_ => selected ⟨rfl, at_⟩
  refine Device.readWord_congr rfl rfl rfl rfl (fun _ => rfl) (fun _ _ => rfl) (fun _ _ => ?_) fun _ => rfl
  have words : (d.onSmu fun m => { m with peek := peekOfWord w }).smu.words =
      (d.smu.words.set 5 (packed [fieldAt 0 9 (peekOfWord w).column.toNat, fieldAt 16 7 (peekOfWord w).row.toNat,
        fieldAt 24 2 (peekOfWord w).station.val])).set 6
        (fieldAt 0 4 ({ d.smu with peek := peekOfWord w } : Smu).peekCell.code) := rfl
  rw [words, groupWord_set_other (by omega), groupWord_set_other (by omega)]

/-! ## The address windows (R172) -/

/-- What word i of a window reads after a write of a word. -/
def windowValue (i : Nat) (w : Word) : Word :=
  if i = 0 then (w &&& 1) ||| (BitVec.ofNat 32 (max 12 (min ((w >>> 8) &&& 0x1F).toNat 31)) <<< 8) else w

theorem exponent_word (w : Word) :
    fieldAt 8 5 (clampNat 12 31 (w.toNat / 256 % 32)) = BitVec.ofNat 32 (max 12 (min ((w >>> 8) &&& 0x1F).toNat 31)) <<< 8 := by
  have field : ((w >>> 8) &&& 0x1F).toNat = w.toNat / 256 % 32 := by
    rw [BitVec.toNat_and, BitVec.toNat_ushiftRight, Nat.shiftRight_eq_div_pow]
    exact Nat.and_two_pow_sub_one_eq_mod _ 5
  rw [field]
  have bound : clampNat 12 31 (w.toNat / 256 % 32) < 32 := by unfold clampNat; omega
  refine BitVec.eq_of_toNat_eq ?_
  show (fieldAt 8 5 (clampNat 12 31 (w.toNat / 256 % 32))).toNat = (BitVec.ofNat 32 (clampNat 12 31 (w.toNat / 256 % 32)) <<< 8).toNat
  generalize clampNat 12 31 (w.toNat / 256 % 32) = n at bound
  rw [fieldAt, BitVec.toNat_shiftLeft, BitVec.toNat_ofNat, BitVec.toNat_ofNat, Nat.shiftLeft_eq]
  omega

theorem Window.write_words (v : Window) {i : Nat} (small : i < 3) (w : Word) : (v.write i w).words = v.words.set i (windowValue i w) := by
  interval_cases i
  · have control : packed [bitAt 0 (w.getLsbD 0), fieldAt 8 5 (clampNat 12 31 (w.toNat / 256 % 32))] = windowValue 0 w := by
      show (0#32 ||| bitAt 0 (w.getLsbD 0)) ||| fieldAt 8 5 _ = _
      rw [BitVec.zero_or, bitAt_zero, exponent_word]
      rfl
    show [packed [bitAt 0 (w.getLsbD 0), fieldAt 8 5 (clampNat 12 31 (w.toNat / 256 % 32))], v.base, v.target] = _
    rw [control]
    rfl
  · rfl
  · rfl

theorem Device.writeWord_window0 (d : Device) {i : Nat} (small : i < 3) (w : Word) :
    d.writeWord (BitVec.ofNat 12 (0x7C0 + 4 * i)) w = d.onEngine fun e => { e with window0 := e.window0.write i w } := by
  interval_cases i <;> rfl

theorem Device.writeWord_window1 (d : Device) {i : Nat} (small : i < 3) (w : Word) :
    d.writeWord (BitVec.ofNat 12 (0x7CC + 4 * i)) w = d.onEngine fun e => { e with window1 := e.window1.write i w } := by
  interval_cases i <;> rfl

theorem Device.readWord_engine (d : Device) {o : BitVec 12} (low : 0x780 ≤ o.toNat) (high : o.toNat < 0x800) :
    d.readWord o = groupWord d.engine.words ((o.toNat - 0x780) / 4) := by
  rw [Device.readWord, if_neg (by omega), if_neg (by omega), if_neg (by omega), if_neg (by omega), if_neg (by omega), if_neg (by omega),
    if_neg (by omega), if_neg (by omega), if_neg (by omega), if_neg (by omega), if_neg (by omega), if_neg (by omega), if_neg (by omega),
    if_pos high]

theorem Engine.window0_words (e : Engine) {i : Nat} (small : i < 3) (w : Word) :
    ({ e with window0 := e.window0.write i w } : Engine).words = e.words.set (16 + i) (windowValue i w) := by
  have parts : ({ e with window0 := e.window0.write i w } : Engine).words =
    e.words.take 16 ++ (e.window0.write i w).words ++ e.window1.words := rfl
  rw [parts, e.window0.write_words small]
  interval_cases i <;> rfl

theorem Engine.window1_words (e : Engine) {i : Nat} (small : i < 3) (w : Word) :
    ({ e with window1 := e.window1.write i w } : Engine).words = e.words.set (19 + i) (windowValue i w) := by
  have parts : ({ e with window1 := e.window1.write i w } : Engine).words =
    e.words.take 19 ++ (e.window1.write i w).words := rfl
  rw [parts, e.window1.write_words small]
  interval_cases i <;> rfl

theorem Device.storesAt_window0 (d : Device) {i : Nat} (small : i < 3) (w : Word) :
    d.StoresAt (d.onEngine fun e => { e with window0 := e.window0.write i w }) (BitVec.ofNat 12 (0x7C0 + 4 * i)) (windowValue i w) := by
  have offset := toNat_offset (base := 0x7C0) (i := i) (by omega)
  have length : d.engine.words.length = 22 := rfl
  have words : (d.onEngine fun e => { e with window0 := e.window0.write i w }).engine.words =
    d.engine.words.set (16 + i) (windowValue i w) := d.engine.window0_words small w
  refine ⟨?_, fun o' other _ _ => ?_, rfl⟩
  · rw [Device.readWord_engine _ (by omega) (by omega), words, offset, show (0x7C0 + 4 * i - 0x780) / 4 = 16 + i by omega,
      groupWord_set_self (by omega)]
  · refine Device.readWord_congr rfl rfl rfl rfl (fun _ => rfl) (fun _ _ => rfl) (fun _ _ => rfl) fun _ => ?_
    rw [words, groupWord_set_other (by omega)]

theorem Device.storesAt_window1 (d : Device) {i : Nat} (small : i < 3) (w : Word) :
    d.StoresAt (d.onEngine fun e => { e with window1 := e.window1.write i w }) (BitVec.ofNat 12 (0x7CC + 4 * i)) (windowValue i w) := by
  have offset := toNat_offset (base := 0x7CC) (i := i) (by omega)
  have length : d.engine.words.length = 22 := rfl
  have words : (d.onEngine fun e => { e with window1 := e.window1.write i w }).engine.words =
    d.engine.words.set (19 + i) (windowValue i w) := d.engine.window1_words small w
  refine ⟨?_, fun o' other _ _ => ?_, rfl⟩
  · rw [Device.readWord_engine _ (by omega) (by omega), words, offset, show (0x7CC + 4 * i - 0x780) / 4 = 19 + i by omega,
      groupWord_set_self (by omega)]
  · refine Device.readWord_congr rfl rfl rfl rfl (fun _ => rfl) (fun _ _ => rfl) (fun _ _ => rfl) fun _ => ?_
    rw [words, groupWord_set_other (by omega)]

/-! ## Every stored register -/

/-- The stored registers by group. -/
theorem storedRegisters_eq :
    storedRegisters = [(0x014, fun w => w &&& 0x3FFF), (0x018, fun w => w &&& 1)] ++
      (List.range 8).map (fun i => (BitVec.ofNat 12 (0x040 + 4 * i), id)) ++
      (List.range 12).map (fun i => (BitVec.ofNat 12 (0x060 + 4 * i), id)) ++
      parameterRanges.map (fun r => (BitVec.ofNat 12 (0x200 + 4 * r.1), fun w => BitVec.ofNat 32 (max r.2.1 (min w.toNat r.2.2)))) ++
      [(0x754, fun w => w &&& 0x037F01FF)] ++
      ((List.range 3).map (fun i => (BitVec.ofNat 12 (0x7C0 + 4 * i), windowValue i)) ++
        (List.range 3).map (fun i => (BitVec.ofNat 12 (0x7CC + 4 * i), windowValue i))) := rfl

theorem Device.storesAt_writeWord (d : Device) {o : BitVec 12} {f : Word → Word} (mem : (o, f) ∈ storedRegisters) (w : Word) :
    d.StoresAt (d.writeWord o w) o (f w) := by
  simp only [storedRegisters_eq, List.mem_append, List.mem_map, List.mem_cons, List.not_mem_nil, or_false, List.mem_range,
    Prod.mk.injEq, Prod.exists] at mem
  obtain ((((((⟨rfl, rfl⟩ | ⟨rfl, rfl⟩) | ⟨i, small, rfl, rfl⟩) | ⟨i, small, rfl, rfl⟩) | ⟨i, lo, hi, range, rfl, rfl⟩) | ⟨rfl, rfl⟩) |
    (⟨i, small, rfl, rfl⟩ | ⟨i, small, rfl, rfl⟩)) := mem
  · exact d.storesAt_mask w
  · exact d.storesAt_noticeControl w
  · rw [d.writeWord_parameterWord small]
    exact d.storesAt_parameterWord small w
  · rw [d.writeWord_staging small]
    exact d.storesAt_staging small w
  · rw [d.writeWord_params (lt_of_mem_parameterRanges _ range)]
    exact d.storesAt_params range w
  · exact d.storesAt_peek w
  · rw [d.writeWord_window0 small]
    exact d.storesAt_window0 small w
  · rw [d.writeWord_window1 small]
    exact d.storesAt_window1 small w

end Sys2Proof.Machine

namespace Sys2Proof

open Machine

/-- Settles O35. -/
theorem registersStore : Obligations.RegistersStore := by
  intro o f mem d q w
  obtain ⟨read, others, blocks⟩ := d.storesAt_writeWord mem w
  exact ⟨d.writeWord o w, rfl, read, others, blocks⟩

end Sys2Proof
end
